-- ==== Sys2Proof/Word.lean ====
section
/-! DEFINITION. The word types of the ASC Virtual Machine CORE (spec/00_scope.md R5, R8, R12; spec/30_encoding.md R60, R62). -/

namespace Sys2Proof

/-- R5: an Information Unit, the machine's atomic datum: a 12-bit unsigned value. Every register, memory cell and
immediate is one. -/
abbrev IU := BitVec 12

/-- R62: an instruction word, three 12-bit syllables. -/
abbrev Word36 := BitVec 36

/-- R60, R64: a register index as the encoding holds it, 4 bits; valid only when it is below `NUM_REGISTERS` (R22). -/
abbrev RegIdx := BitVec 4

/-- R66: an absolute data address as the encoding holds it, 24 bits. -/
abbrev Addr24 := BitVec 24

/-- R27, R63: an instruction index: the program counter and the jump targets, 24 bits. -/
abbrev Index := BitVec 24

/-- R200: the number of a dynamics rule, 12 bits. -/
abbrev RuleId := BitVec 12

/-- R68: the component mask of a DRS query; bit 2 subject, bit 1 relation, bit 0 object. -/
abbrev Mask3 := BitVec 3

end Sys2Proof
end

