-- ==== Sys2Proof/Machine/Port.lean ====
section
/-! DEFINITION. The data that crosses the store port (spec/43_collaborator.md R200 to R203): triplets, query patterns,
responses, and the events of a run's port history (spec/10_state.md R34). -/

namespace Sys2Proof

/-- R17: a DRS fact, a (subject, relation, object) triplet of IUs. -/
structure Triplet where
  subject : IU
  relation : IU
  object : IU
deriving DecidableEq, Repr

/-- R209, R210: a query's three components; `none` is the `*` of the rules, a component the mask does not constrain. -/
structure Pattern (α : Type) where
  subject : Option α
  relation : Option α
  object : Option α
deriving DecidableEq, Repr

/-- R201: the identifier of a basin, opaque to the CORE, with decidable equality.
DEDUCED (log 11), safe: identifiers are named by numbers, of which there are more than the 4096 that `BASIN_FN` can give. -/
structure BasinId where
  name : Nat
deriving DecidableEq, Repr, Inhabited

/-- R34: a reference to an external store; shared, not owned. The CORE does nothing with it but send it requests. -/
structure StoreHandle where
  name : Nat
deriving DecidableEq, Repr, Inhabited

/-- R202: what the Content Store may answer to `unfold`. -/
inductive UnfoldResponse where
  /-- The digest is unknown. -/
  | notFound
  /-- The sequence recovered: any finite list of IUs. -/
  | sequence (seq : List IU)
deriving DecidableEq, Repr, Inhabited

/-- R202, R34: one request of a run and the response it got. -/
inductive PortEvent where
  /-- `Port.enfold(seq)`, answered with a digest. -/
  | enfold (seq : List IU) (digest : IU)
  /-- `Port.unfold(digest)`. -/
  | unfold (digest : IU) (response : UnfoldResponse)
  /-- `Port.insert(s, r, o)`, answered with unit. -/
  | insert (fact : Triplet)
  /-- `Port.query_exact(mask, pattern)`. -/
  | queryExact (mask : Mask3) (pattern : Pattern IU) (response : List Triplet)
  /-- `Port.query_by_basin(mask, signature)`. -/
  | queryByBasin (mask : Mask3) (signature : Pattern BasinId) (response : List Triplet)
deriving DecidableEq, Repr

end Sys2Proof
end

