-- ==== Sys2Proof/Config.lean ====
section
/-! DEFINITION. What is fixed for the machine (spec/00_scope.md R5 to R11), the collaborator functions it takes as
parameters (R10), and the free values: the environment's answers to port requests that nothing has lined up
(spec/43_collaborator.md R202). A constant without a body is opaque: no proof can learn its value. -/

namespace Sys2Proof.Config

/-- R6: `NUM_REGISTERS`. -/
def numRegisters : Nat := 4

/-- R11: `MASK = 2^N - 1`, the greatest IU, which bounds the counts that UNFOLD and the queries return. -/
def mask : Nat := 4095

/-- R7: the greatest `MEM_CAP`, `2^24`. -/
def memCapLimit : Nat := 16777216

/-- R8: the greatest program length, `2^24 - 1`. -/
def lenLimit : Nat := 16777215

/-- DESIGN CHOICE (log 2), unsafe: the `MEM_CAP` that `State.reset` holds. R7 leaves the parameter open; this is the
value that spec/95_test_vectors.md assumes. -/
def resetMemCap : Nat := 256

/-- DESIGN CHOICE (log 3), unsafe: the `MAX_STEPS` that `State.reset` holds. R9 has the host supply it with each run;
this is the value that spec/95_test_vectors.md assumes. -/
def resetMaxSteps : Nat := 1000

/-- R10, R200: `APPLY_FN`, the dynamics module's rules: pure and total. -/
opaque applyFn : RuleId → IU → IU

/-- R10, R201: `BASIN_FN`: pure and total. -/
opaque basinFn : IU → BasinId

/-- R10, R202: `ENFOLD_FN`, the digest of a sequence: a function of the sequence alone (D39). -/
opaque enfoldFn : List IU → IU

/-- R202, a free value (log 6): what the Content Store answers to `unfold(digest)` after the given port history. -/
opaque unfoldDraw : StoreHandle → List PortEvent → IU → UnfoldResponse

/-- R202, a free value (log 6): the triplets that the DRS Store lists for an exact query after the given port history. -/
opaque queryExactDraw : StoreHandle → List PortEvent → Mask3 → Pattern IU → List Triplet

/-- R202, a free value (log 6): the triplets that the DRS Store lists for a basin query after the given port history. -/
opaque queryByBasinDraw : StoreHandle → List PortEvent → Mask3 → Pattern BasinId → List Triplet

end Sys2Proof.Config
end

