-- ==== Sys2Proof/Syntax.lean ====
section
/-! DEFINITION. The abstract syntax of the instruction set AscOp (spec/30_encoding.md R60), one constructor for each row of
spec/opcode_table.json, and the faults a decoder reports (spec/60_exceptions.md R230, R231). -/

namespace Sys2Proof

/-- R60, R64: an ALU operand, a register or an immediate; the instruction fixes which (R61). -/
inductive Operand where
  | reg (i : RegIdx)
  | imm (v : IU)
deriving DecidableEq, Repr

/-- R60, R42: a data address, an absolute literal or the value of a register. -/
inductive Addr where
  | abs (a : Addr24)
  | ind (ra : RegIdx)
deriving DecidableEq, Repr

/-- R67: the condition of a JUMPIF. -/
inductive Cond where
  /-- The Zero flag is set. -/
  | z
  /-- The Zero flag is clear. -/
  | nz
  /-- The Carry flag is set. -/
  | c
  /-- The Carry flag is clear. -/
  | nc
deriving DecidableEq, Repr

/-- R60, R69: the closed instruction set. `LoadConst` is `loadk` and `MoveReg` is `mov` (C3). -/
inductive Instr where
  /-- R183. -/
  | halt
  /-- R110. -/
  | add (rd : RegIdx) (a b : Operand)
  /-- R111. -/
  | sub (rd : RegIdx) (a b : Operand)
  /-- R112. -/
  | and (rd : RegIdx) (a b : Operand)
  /-- R113. -/
  | or (rd : RegIdx) (a b : Operand)
  /-- R114. -/
  | xor (rd : RegIdx) (a b : Operand)
  /-- R115. -/
  | not (rd : RegIdx) (a : Operand)
  /-- R116: `b` is the shift amount. -/
  | shl (rd : RegIdx) (a b : Operand)
  /-- R117: `b` is the shift amount. -/
  | shr (rd : RegIdx) (a b : Operand)
  /-- R118: `b` is the shift amount. -/
  | sar (rd : RegIdx) (a b : Operand)
  /-- R119: `b` is the rotate amount. -/
  | rol (rd : RegIdx) (a b : Operand)
  /-- R120: an immediate only (R65). -/
  | loadk (rd : RegIdx) (v : IU)
  /-- R121: a register only (R65). -/
  | mov (rd rs : RegIdx)
  /-- R152. -/
  | load (rd : RegIdx) (addr : Addr)
  /-- R153. -/
  | store (rs : RegIdx) (addr : Addr)
  /-- R181. -/
  | jump (target : Index)
  /-- R182. -/
  | jumpif (cond : Cond) (target : Index)
  /-- R205. -/
  | apply (rd : RegIdx) (rule : RuleId)
  /-- R206: `ra` holds the base address, `rn` the length. -/
  | enfold (rd ra rn : RegIdx)
  /-- R207: `ra` holds the base of the output, `rs` the digest. -/
  | unfold (rd ra rs : RegIdx)
  /-- R208: subject, relation, object. -/
  | drsins (rs rr ro : RegIdx)
  /-- R209: `ra` holds the pattern's base, `rb` the base of the results. -/
  | drsqe (rd ra rb : RegIdx) (mask : Mask3)
  /-- R210: laid out as `drsqe`. -/
  | drsqb (rd ra rb : RegIdx) (mask : Mask3)
deriving DecidableEq, Repr

/-- R230, R231: the kinds of DecodeFault. -/
inductive DecodeFault where
  /-- R74: an opcode in 0x17 to 0x1F. -/
  | illegalOpcode (op : BitVec 5)
  /-- R75 steps 2 to 5. -/
  | malformedOperand
  /-- R75 step 6: a register index that is not below `NUM_REGISTERS`. -/
  | badRegister (index : RegIdx)
deriving DecidableEq, Repr

end Sys2Proof
end

