-- ==== Sys2Proof/WellFormed.lean ====
section
/-! DEFINITION. Which terms of `Instr` are instructions of this hardware (spec/10_state.md R22; spec/30_encoding.md R65, R68,
R75 steps 5 and 6): every register index they name is below `NUM_REGISTERS`, and a DRSQB constrains a component. -/

namespace Sys2Proof

/-- R22: a valid register index. -/
def RegIdx.valid (i : RegIdx) : Bool := decide (i.toNat < Config.numRegisters)

/-- R64, R75: an operand's register, if it names one, is valid; every immediate is legal. -/
def Operand.valid : Operand → Bool
  | .reg i => RegIdx.valid i
  | .imm _ => true

/-- R66, R75: an address's register, if it names one, is valid; every literal is legal. -/
def Addr.valid : Addr → Bool
  | .abs _ => true
  | .ind ra => RegIdx.valid ra

/-- R22, R68, R75: a well-formed instruction. -/
def Instr.wf : Instr → Bool
  | .halt => true
  | .add rd a b => RegIdx.valid rd && a.valid && b.valid
  | .sub rd a b => RegIdx.valid rd && a.valid && b.valid
  | .and rd a b => RegIdx.valid rd && a.valid && b.valid
  | .or rd a b => RegIdx.valid rd && a.valid && b.valid
  | .xor rd a b => RegIdx.valid rd && a.valid && b.valid
  | .not rd a => RegIdx.valid rd && a.valid
  | .shl rd a b => RegIdx.valid rd && a.valid && b.valid
  | .shr rd a b => RegIdx.valid rd && a.valid && b.valid
  | .sar rd a b => RegIdx.valid rd && a.valid && b.valid
  | .rol rd a b => RegIdx.valid rd && a.valid && b.valid
  | .loadk rd _ => RegIdx.valid rd
  | .mov rd rs => RegIdx.valid rd && RegIdx.valid rs
  | .load rd addr => RegIdx.valid rd && addr.valid
  | .store rs addr => RegIdx.valid rs && addr.valid
  | .jump _ => true
  | .jumpif _ _ => true
  | .apply rd _ => RegIdx.valid rd
  | .enfold rd ra rn => RegIdx.valid rd && RegIdx.valid ra && RegIdx.valid rn
  | .unfold rd ra rs => RegIdx.valid rd && RegIdx.valid ra && RegIdx.valid rs
  | .drsins rs rr ro => RegIdx.valid rs && RegIdx.valid rr && RegIdx.valid ro
  | .drsqe rd ra rb _ => RegIdx.valid rd && RegIdx.valid ra && RegIdx.valid rb
  | .drsqb rd ra rb mask => RegIdx.valid rd && RegIdx.valid ra && RegIdx.valid rb && (mask != 0)

end Sys2Proof
end

