-- ==== Sys2Proof/Decode.lean ====
section
/-! DEFINITION. The binary encoding (spec/30_encoding.md sections 2 to 4): the fields of a 36-bit word, the opcode map, the
formats with their reserved bits, the decoder with the checks of R75 in their order, the encoder, and the byte image of a
program (spec/70_reset_and_hazards.md R265). -/

namespace Sys2Proof

/-- R62: the opcode field w[35:31]. -/
def opField (w : Word36) : BitVec 5 := w.extractLsb' 31 5
/-- R62: the header field `r`, w[30:27]. -/
def rField (w : Word36) : BitVec 4 := w.extractLsb' 27 4
/-- R62: the header field `f`, w[26:24]. -/
def fField (w : Word36) : BitVec 3 := w.extractLsb' 24 3
/-- R62: operand field A, w[23:12]. -/
def aField (w : Word36) : BitVec 12 := w.extractLsb' 12 12
/-- R62: operand field B, w[11:0]. -/
def bField (w : Word36) : BitVec 12 := w.extractLsb' 0 12
/-- R66, R63: `addr24` and `target24`, w[23:0]. -/
def literal24 (w : Word36) : BitVec 24 := w.extractLsb' 0 24
/-- R63: w[26], the form bit `fa` of formats A2 and A1 and the mode bit `m` of format M. -/
def formA (w : Word36) : Bool := (fField w).getLsbD 2
/-- R63: w[25], the form bit `fb` of format A2. -/
def formB (w : Word36) : Bool := (fField w).getLsbD 1

/-- R69: the opcodes. -/
inductive Op where
  | halt | add | sub | and | or | xor | not | shl | shr | sar | rol | loadk | mov
  | load | store | jump | jumpif | apply | enfold | unfold | drsins | drsqe | drsqb
deriving DecidableEq, Repr

/-- R69: an opcode's number. -/
def Op.number : Op → BitVec 5
  | .halt => 0x00 | .add => 0x01 | .sub => 0x02 | .and => 0x03 | .or => 0x04 | .xor => 0x05
  | .not => 0x06 | .shl => 0x07 | .shr => 0x08 | .sar => 0x09 | .rol => 0x0A | .loadk => 0x0B
  | .mov => 0x0C | .load => 0x0D | .store => 0x0E | .jump => 0x0F | .jumpif => 0x10
  | .apply => 0x11 | .enfold => 0x12 | .unfold => 0x13 | .drsins => 0x14 | .drsqe => 0x15
  | .drsqb => 0x16

/-- R69, R74: the opcode of a number; the numbers 0x17 to 0x1F have none. -/
def opOfNumber (n : BitVec 5) : Option Op :=
  match n.toNat with
  | 0 => some .halt | 1 => some .add | 2 => some .sub | 3 => some .and | 4 => some .or
  | 5 => some .xor | 6 => some .not | 7 => some .shl | 8 => some .shr | 9 => some .sar
  | 10 => some .rol | 11 => some .loadk | 12 => some .mov | 13 => some .load | 14 => some .store
  | 15 => some .jump | 16 => some .jumpif | 17 => some .apply | 18 => some .enfold
  | 19 => some .unfold | 20 => some .drsins | 21 => some .drsqe | 22 => some .drsqb
  | _ => none

/-- R63: the nine formats. -/
inductive Format where
  | a2 | a1 | m | j | jc | n | k | c3 | q
deriving DecidableEq, Repr

/-- R63, R69: the format of an opcode. -/
def Op.format : Op → Format
  | .add | .sub | .and | .or | .xor | .shl | .shr | .sar | .rol => .a2
  | .not | .loadk | .mov => .a1
  | .load | .store => .m
  | .jump => .j
  | .jumpif => .jc
  | .halt => .n
  | .apply => .k
  | .enfold | .unfold | .drsins => .c3
  | .drsqe | .drsqb => .q

/-- R63: the reserved bits of a format, as a mask; in format M they depend on the mode bit. -/
def Format.reserved (f : Format) (mode : Bool) : Word36 :=
  match f with
  | .a2 => 0x001000000
  | .a1 => 0x003000FFF
  | .m => if mode then 0x003000000 else 0x003000FFF
  | .j => 0x07F000000
  | .jc => 0x01F000000
  | .n => 0x7FFFFFFF
  | .k => 0x007000FFF
  | .c3 => 0x007000000
  | .q => 0x000000000

/-- R75 step 3, R65: LOADK takes an immediate and MOV a register; every other opcode takes the forms its format has. -/
def Op.formAllowed (op : Op) (form : Bool) : Bool :=
  match op with
  | .loadk => form
  | .mov => !form
  | _ => true

/-- R64: whether field A holds a register index. -/
def Format.regInA (f : Format) (form : Bool) : Bool :=
  match f with
  | .a2 | .a1 | .m => !form
  | .c3 | .q => true
  | .j | .jc | .n | .k => false

/-- R64: whether field B holds a register index. -/
def Format.regInB (f : Format) (form : Bool) : Bool :=
  match f with
  | .a2 => !form
  | .c3 | .q => true
  | .a1 | .m | .j | .jc | .n | .k => false

/-- R64: the high bits F[11:4] of a field that holds a register index are zero. -/
def highBitsZero (field : BitVec 12) : Bool := field.extractLsb' 4 8 == 0

/-- R64: the register index of a field, F[3:0]. -/
def regOfField (field : BitVec 12) : RegIdx := field.extractLsb' 0 4

/-- R64: a register index in a field. -/
def fieldOfReg (i : RegIdx) : BitVec 12 := i.setWidth 12

/-- R64: the operand of a field and its form bit. -/
def operandOf (form : Bool) (field : BitVec 12) : Operand :=
  if form then .imm field else .reg (regOfField field)

/-- R66: the address of a format M word. -/
def addrOf (w : Word36) : Addr :=
  if formA w then .abs (literal24 w) else .ind (regOfField (aField w))

/-- R67: the condition of a code. -/
def condOf (code : BitVec 2) : Cond :=
  match code.toNat with
  | 0 => .z
  | 1 => .nz
  | 2 => .c
  | _ => .nc

/-- R67: the code of a condition. -/
def Cond.code : Cond → BitVec 2
  | .z => 0
  | .nz => 1
  | .c => 2
  | .nc => 3

/-- R72, R73: the instruction that a word of an opcode spells, read field by field. -/
def assemble (op : Op) (w : Word36) : Instr :=
  let r := rField w
  let a := operandOf (formA w) (aField w)
  let b := operandOf (formB w) (bField w)
  let ra := regOfField (aField w)
  let rb := regOfField (bField w)
  match op with
  | .halt => .halt
  | .add => .add r a b
  | .sub => .sub r a b
  | .and => .and r a b
  | .or => .or r a b
  | .xor => .xor r a b
  | .not => .not r a
  | .shl => .shl r a b
  | .shr => .shr r a b
  | .sar => .sar r a b
  | .rol => .rol r a b
  | .loadk => .loadk r (aField w)
  | .mov => .mov r ra
  | .load => .load r (addrOf w)
  | .store => .store r (addrOf w)
  | .jump => .jump (literal24 w)
  | .jumpif => .jumpif (condOf (r.extractLsb' 2 2)) (literal24 w)
  | .apply => .apply r (aField w)
  | .enfold => .enfold r ra rb
  | .unfold => .unfold r ra rb
  | .drsins => .drsins r ra rb
  | .drsqe => .drsqe r ra rb (fField w)
  | .drsqb => .drsqb r ra rb (fField w)

/-- R75 step 6: the register an operand names, if it names one. -/
def Operand.regs : Operand → List RegIdx
  | .reg i => [i]
  | .imm _ => []

/-- R75 step 6: the register an address names, if it names one. -/
def Addr.regs : Addr → List RegIdx
  | .abs _ => []
  | .ind ra => [ra]

/-- R75 step 6: the registers an instruction names, in the order in which they are checked: the header's, field A's,
field B's. -/
def Instr.regs : Instr → List RegIdx
  | .halt | .jump _ | .jumpif _ _ => []
  | .add rd a b | .sub rd a b | .and rd a b | .or rd a b | .xor rd a b
  | .shl rd a b | .shr rd a b | .sar rd a b | .rol rd a b => rd :: (a.regs ++ b.regs)
  | .not rd a => rd :: a.regs
  | .loadk rd _ | .apply rd _ => [rd]
  | .mov rd rs => [rd, rs]
  | .load r addr | .store r addr => r :: addr.regs
  | .enfold r1 r2 r3 | .unfold r1 r2 r3 | .drsins r1 r2 r3 => [r1, r2, r3]
  | .drsqe rd ra rb _ | .drsqb rd ra rb _ => [rd, ra, rb]

/-- R75 step 5, R68: a DRSQB whose mask constrains nothing. -/
def Instr.emptySignature : Instr → Bool
  | .drsqb _ _ _ mask => mask == 0
  | _ => false

/-- R75 steps 5 and 6 on the abstract syntax: the DecodeFault of an instruction that is not well formed. -/
def Instr.formFault (i : Instr) : Option DecodeFault :=
  if i.emptySignature then some .malformedOperand
  else (i.regs.find? fun r => !RegIdx.valid r).map .badRegister

/-- R75 steps 2 to 4: a word of an opcode whose fields are shaped as its format and its forms require. -/
def wordShaped (op : Op) (w : Word36) : Bool :=
  (w &&& op.format.reserved (formA w) == 0)
    && op.formAllowed (formA w)
    && (!op.format.regInA (formA w) || highBitsZero (aField w))
    && (!op.format.regInB (formB w) || highBitsZero (bField w))

/-- R71, R75: the decoder, total: an instruction, or the one DecodeFault of the first check that fails. -/
def decode (w : Word36) : Except DecodeFault Instr :=
  match opOfNumber (opField w) with
  | none => .error (.illegalOpcode (opField w))
  | some op =>
    if wordShaped op w then
      match (assemble op w).formFault with
      | some f => .error f
      | none => .ok (assemble op w)
    else .error .malformedOperand

/-- R62: a word from its five fields. -/
def wordOf (op : Op) (r : BitVec 4) (f : BitVec 3) (a b : BitVec 12) : Word36 :=
  op.number ++ r ++ f ++ a ++ b

/-- R63, R64: the form bit of an operand. -/
def Operand.form : Operand → Bool
  | .reg _ => false
  | .imm _ => true

/-- R64: the field of an operand. -/
def Operand.field : Operand → BitVec 12
  | .reg i => fieldOfReg i
  | .imm v => v

/-- R63: the header field `f` of formats A2 and A1: `fa`, `fb`, 0. -/
def formBits (fa fb : Bool) : BitVec 3 := BitVec.ofBool fa ++ BitVec.ofBool fb ++ 0#1

/-- R63: a word of format A2. -/
def encodeA2 (op : Op) (rd : RegIdx) (a b : Operand) : Word36 :=
  wordOf op rd (formBits a.form b.form) a.field b.field

/-- R63: a word of format A1. -/
def encodeA1 (op : Op) (rd : RegIdx) (a : Operand) : Word36 :=
  wordOf op rd (formBits a.form false) a.field 0

/-- R63, R66: a word of format M. -/
def encodeM (op : Op) (r : RegIdx) : Addr → Word36
  | .abs a => wordOf op r (formBits true false) (a.extractLsb' 12 12) (a.extractLsb' 0 12)
  | .ind ra => wordOf op r (formBits false false) (fieldOfReg ra) 0

/-- R63: a word whose low 24 bits are a literal: formats J and JC. -/
def encodeJ (op : Op) (r : BitVec 4) (t : Index) : Word36 :=
  wordOf op r 0 (t.extractLsb' 12 12) (t.extractLsb' 0 12)

/-- R63: a word of three register fields: formats C3 and Q. -/
def encodeRegs (op : Op) (r1 : RegIdx) (f : BitVec 3) (r2 r3 : RegIdx) : Word36 :=
  wordOf op r1 f (fieldOfReg r2) (fieldOfReg r3)

/-- R62 to R69: the word of an instruction. -/
def encode : Instr → Word36
  | .halt => wordOf .halt 0 0 0 0
  | .add rd a b => encodeA2 .add rd a b
  | .sub rd a b => encodeA2 .sub rd a b
  | .and rd a b => encodeA2 .and rd a b
  | .or rd a b => encodeA2 .or rd a b
  | .xor rd a b => encodeA2 .xor rd a b
  | .not rd a => encodeA1 .not rd a
  | .shl rd a b => encodeA2 .shl rd a b
  | .shr rd a b => encodeA2 .shr rd a b
  | .sar rd a b => encodeA2 .sar rd a b
  | .rol rd a b => encodeA2 .rol rd a b
  | .loadk rd v => encodeA1 .loadk rd (.imm v)
  | .mov rd rs => encodeA1 .mov rd (.reg rs)
  | .load rd addr => encodeM .load rd addr
  | .store rs addr => encodeM .store rs addr
  | .jump t => encodeJ .jump 0 t
  | .jumpif cond t => encodeJ .jumpif (cond.code ++ 0#2) t
  | .apply rd rule => wordOf .apply rd 0 rule 0
  | .enfold rd ra rn => encodeRegs .enfold rd 0 ra rn
  | .unfold rd ra rs => encodeRegs .unfold rd 0 ra rs
  | .drsins rs rr ro => encodeRegs .drsins rs 0 rr ro
  | .drsqe rd ra rb mask => encodeRegs .drsqe rd mask ra rb
  | .drsqb rd ra rb mask => encodeRegs .drsqb rd mask ra rb

/-- R265: the word of five image bytes, most significant first; none where the top nibble is not zero. -/
def wordOfBytes (b4 b3 b2 b1 b0 : BitVec 8) : Option Word36 :=
  if b4.extractLsb' 4 4 == 0 then some (b4.extractLsb' 0 4 ++ b3 ++ b2 ++ b1 ++ b0) else none

/-- R265: a program's byte image read as words; none where the image is not a program. -/
def programOfImage : List (BitVec 8) → Option (List Word36)
  | [] => some []
  | b4 :: b3 :: b2 :: b1 :: b0 :: rest =>
    match wordOfBytes b4 b3 b2 b1 b0, programOfImage rest with
    | some w, some ws => some (w :: ws)
    | _, _ => none
  | _ => none

/-- R265: the five image bytes of a word. -/
def bytesOfWord (w : Word36) : List (BitVec 8) :=
  [(w.extractLsb' 32 4).setWidth 8, w.extractLsb' 24 8, w.extractLsb' 16 8, w.extractLsb' 8 8, w.extractLsb' 0 8]

/-- R265: a program's byte image, index 0 first. -/
def imageOfProgram (prog : List Word36) : List (BitVec 8) := prog.flatMap bytesOfWord

/-- The word of an instruction whose bits the opcode table numbers `w`, `nbits` of them given and the others zero; none
where a bit above the 36 of the word is set (R62, R265). -/
def tableWord (nbits w : Nat) : Option Word36 :=
  if w % 2 ^ nbits < 2 ^ 36 then some (BitVec.ofNat 36 (w % 2 ^ nbits)) else none

/-- What the decoder reads from a word of the opcode table; none where it reports a fault. -/
def decodeTableWord (nbits w : Nat) : Option Instr :=
  match tableWord nbits w with
  | none => none
  | some word =>
    match decode word with
    | .ok i => some i
    | .error _ => none

end Sys2Proof
end

