-- ==== Sys2Proof/Machine/Primitives.lean ====
section
/-! DEFINITION. The IU primitives (spec/40_alu.md R100 to R106): total, pure functions of their arguments. -/

namespace Sys2Proof.Machine

/-- R101: AND. -/
def iuAnd (a b : IU) : IU := a &&& b
/-- R101: OR. -/
def iuOr (a b : IU) : IU := a ||| b
/-- R101: XOR. -/
def iuXor (a b : IU) : IU := a ^^^ b
/-- R101: the complement, `MASK - a`. -/
def complement (a : IU) : IU := ~~~a

/-- R102: circular shift left, the amount taken modulo N. -/
def rotl (a : IU) (k : Nat) : IU := (a <<< (k % 12)) ||| (a >>> (12 - k % 12))

/-- R103: logical shift left, the amount not reduced. -/
def shl (a : IU) (k : Nat) : IU := a <<< k
/-- R103: logical shift right, the amount not reduced. -/
def shr (a : IU) (k : Nat) : IU := a >>> k
/-- R103: arithmetic shift right, the amount not reduced. -/
def sar (a : IU) (k : Nat) : IU := a.sshiftRight k

/-- R104: the half-adder on IUs: the sum and carry patterns. -/
def halfAdder (a b : IU) : IU × IU := (a ^^^ b, a &&& b)
/-- R104: the full-adder on IUs: the sum and carry patterns. -/
def fullAdder (a b cin : IU) : IU × IU := (a ^^^ b ^^^ cin, (a &&& b) ||| (a &&& cin) ||| (b &&& cin))

/-- R105: the sum bit of one position. -/
def sumBit (a b c : Bool) : Bool := a ^^ b ^^ c
/-- R105: the carry out of one position. -/
def carryBit (a b c : Bool) : Bool := (a && b) || (a && c) || (b && c)

/-- R105: the loop of the ripple-carry adder over the low `n` bits: the sum of those bits, and the carry out of them. -/
def ripple (a b : IU) (cin : Bool) : Nat → Nat × Bool
  | 0 => (0, cin)
  | i + 1 =>
    let r := ripple a b cin i
    (r.1 + (sumBit (a.getLsbD i) (b.getLsbD i) r.2).toNat * 2 ^ i, carryBit (a.getLsbD i) (b.getLsbD i) r.2)

/-- R105: the 12-bit ripple-carry adder: the sum and the carry out. -/
def rippleCarryAdd (a b : IU) (cin : Bool) : IU × Bool :=
  let r := ripple a b cin 12
  (BitVec.ofNat 12 r.1, r.2)

/-- R106: the multiplexer. -/
def mux (select : Bool) (a b : IU) : IU := if select then a else b
/-- R106, D17: the demultiplexer. -/
def demux (select : Bool) (v : IU) : IU × IU := if select then (v, 0) else (0, v)

end Sys2Proof.Machine
end

