-- ==== Sys2Proof/Machine/Flags.lean ====
section
/-! DEFINITION. Every flag computation the spec gives (spec/40_alu.md R108, R110 to R119): what an ALU-class opcode computes
from its operand values: the result, and the Carry flag. The Zero flag is the same for all of them (R25). -/

namespace Sys2Proof.Machine

/-- R108: what an ALU-class opcode computes: the value written to the destination and the Carry flag. -/
structure AluResult where
  value : IU
  carry : Bool
deriving DecidableEq, Repr

/-- R25, R108: the Zero flag of a result. -/
def zeroFlag (v : IU) : Bool := v == 0

/-- R116: the last bit shifted out to the left, bit N of the unbounded `va << k`. -/
def shlCarry (va : IU) (k : Nat) : Bool := (va.toNat <<< k).testBit 12

/-- R117: the last bit shifted out to the right, bit 0 of `va >> (k - 1)`; 0 for no shift. -/
def shrCarry (va : IU) (k : Nat) : Bool := if k = 0 then false else (shr va (k - 1)).getLsbD 0

/-- R118: the last bit shifted out to the right of the sign-extended value; 0 for no shift. -/
def sarCarry (va : IU) (k : Nat) : Bool := if k = 0 then false else (sar va (k - 1)).getLsbD 0

/-- R110. -/
def addResult (va vb : IU) : AluResult :=
  let r := rippleCarryAdd va vb false
  ⟨r.1, r.2⟩

/-- R111, D12: two's-complement add of the complement, with carry-in 1. -/
def subResult (va vb : IU) : AluResult :=
  let r := rippleCarryAdd va (complement vb) true
  ⟨r.1, r.2⟩

/-- R112, D13. -/
def andResult (va vb : IU) : AluResult := ⟨iuAnd va vb, false⟩
/-- R113, D13. -/
def orResult (va vb : IU) : AluResult := ⟨iuOr va vb, false⟩
/-- R114, D13. -/
def xorResult (va vb : IU) : AluResult := ⟨iuXor va vb, false⟩
/-- R115, D13. -/
def notResult (va : IU) : AluResult := ⟨complement va, false⟩
/-- R116, D15, D16. -/
def shlResult (va vb : IU) : AluResult := ⟨shl va vb.toNat, shlCarry va vb.toNat⟩
/-- R117, D15, D16. -/
def shrResult (va vb : IU) : AluResult := ⟨shr va vb.toNat, shrCarry va vb.toNat⟩
/-- R118, D15, D16. -/
def sarResult (va vb : IU) : AluResult := ⟨sar va vb.toNat, sarCarry va vb.toNat⟩
/-- R119, D14. -/
def rolResult (va vb : IU) : AluResult := ⟨rotl va vb.toNat, false⟩

end Sys2Proof.Machine
end

