-- ==== Sys2Proof/Machine/State.lean ====
section
/-! DEFINITION. The machine state (spec/10_state.md), the fault reasons (spec/60_exceptions.md R230), and the state at reset
(spec/10_state.md R37; spec/70_reset_and_hazards.md R260). -/

namespace Sys2Proof.Machine

/-- R230, R235: the kinds of StoreFault. -/
inductive StoreFault where
  /-- The Content Store does not know the digest. -/
  | notFound (digest : IU)
  /-- A response has more items than an IU can count. -/
  | responseTooLong (length : Nat)
deriving DecidableEq, Repr

/-- R230: the reasons of a fault. -/
inductive FaultReason where
  | decodeFault (kind : DecodeFault)
  | addressFault (address : Nat)
  | controlFault (target : Index)
  | resourceExhausted
  | storeFault (kind : StoreFault)
deriving DecidableEq, Repr

/-- R32: the run status. -/
inductive Status where
  | running
  | halted
  | faulted (reason : FaultReason)
deriving DecidableEq, Repr

/-- The reasons for which a step stops outside the architecture: NONE, so the type has no constructor, nobody raises it, and
that is safe. Every fault of the spec (R230, R236) is a next state whose status is `faulted` (log 9). -/
inductive Fault where
deriving DecidableEq, Repr

/-- The refusals. No step and no instruction refuses; the last four are the host's refusals of a run (R262, R265, D4, D37,
D38), raised by `startRun` and `startRunFromImage`, which is safe: a run refused is no run. -/
inductive Refusal where
  /-- Raised by an arm of `exec` whose instruction has no meaning: by none. -/
  | notModelled (mnemonic : String)
  /-- R8, D4: a program of more than `2^24 - 1` words. -/
  | programTooLong (length : Nat)
  /-- D38: a negative `max_steps`. -/
  | negativeStepLimit
  /-- R262, D37: a start state out of range. -/
  | startStateOutOfRange
  /-- R265, D27: a byte image of bad length or with a nonzero top nibble. -/
  | badImage
deriving DecidableEq, Repr

/-- R20: the register file: four registers of one IU each, none of them special. -/
structure RegFile where
  r0 : IU
  r1 : IU
  r2 : IU
  r3 : IU
deriving DecidableEq, Repr

/-- R40: one listed cell of the data memory: its address and its IU. -/
abbrev Cell := Nat × IU

/-- R30: the data memory, as the cells that differ from `Memory.unlisted`, addresses rising (log 1). -/
abbrev Memory := List Cell

/-- R37: what a cell that is not listed holds. -/
def Memory.unlisted : IU := 0

/-- R38: the machine state, with the configuration of the run and of the machine beside it (log 2, 3, 4) and the responses
that the environment has lined up (log 6). -/
structure State where
  /-- R20. -/
  regs : RegFile
  /-- R24: the Zero flag. -/
  z : Bool
  /-- R24: the Carry flag. -/
  c : Bool
  /-- R30. -/
  mem : Memory
  /-- R27: an instruction index. -/
  pc : Index
  /-- R31. -/
  tick : Nat
  /-- R32. -/
  status : Status
  /-- R33: instructions executed in this run. -/
  steps : Nat
  /-- R34: the reference to the Content Store. -/
  contentStore : StoreHandle
  /-- R34: the reference to the DRS Store. -/
  drsStore : StoreHandle
  /-- R34, R202: the requests and responses of this run, in order. -/
  history : List PortEvent
  /-- R36: the program store, configuration of the run. -/
  prog : List Word36
  /-- R9: `MAX_STEPS`, configuration of the run. -/
  maxSteps : Nat
  /-- R7: `MEM_CAP`, a parameter of the machine. -/
  memCap : Nat
  /-- The model's own: the responses to the coming unfold requests. -/
  unfoldAnswers : List UnfoldResponse
  /-- The model's own: the responses to the coming DRS queries. -/
  queryAnswers : List (List Triplet)
deriving DecidableEq, Repr

/-- R37, R260: the machine right after reset. The program store is empty (log 4); `MAX_STEPS`, `MEM_CAP`, the store handles
and the lined-up responses are at the values of log 3, 2, 5 and 6 (DESIGN CHOICE, unsafe). -/
def State.reset : State where
  regs := ⟨0, 0, 0, 0⟩
  z := false
  c := false
  mem := []
  pc := 0
  tick := 0
  status := .running
  steps := 0
  contentStore := ⟨0⟩
  drsStore := ⟨0⟩
  history := []
  prog := []
  maxSteps := Config.resetMaxSteps
  memCap := Config.resetMemCap
  unfoldAnswers := []
  queryAnswers := []

end Sys2Proof.Machine
end

