-- ==== Sys2Proof/Machine/Ops.lean ====
section
/-! DEFINITION. The named operations over the state: registers, flags, memory (spec/20_memory.md), the program counter, the
entry of a fault and the halt (spec/60_exceptions.md R236; spec/42_control.md R183), the guard that every instruction passes
(spec/30_encoding.md R75), and the store port (spec/43_collaborator.md R202, R204). -/

namespace Sys2Proof.Machine

/-! ### Registers and flags -/

/-- R14: the value of a register. An index that is not valid reads 0, which no instruction gets to do: the guard
`State.checked` stands before every read (log 12). -/
def RegFile.get (f : RegFile) (i : RegIdx) : IU :=
  match i.toNat with
  | 0 => f.r0
  | 1 => f.r1
  | 2 => f.r2
  | 3 => f.r3
  | _ => 0

/-- R14: the file with one register replaced; an index that is not valid replaces none (log 12). -/
def RegFile.set (f : RegFile) (i : RegIdx) (v : IU) : RegFile :=
  match i.toNat with
  | 0 => { f with r0 := v }
  | 1 => { f with r1 := v }
  | 2 => { f with r2 := v }
  | 3 => { f with r3 := v }
  | _ => f

/-- R14: `x[i]`. -/
def State.reg (s : State) (i : RegIdx) : IU := s.regs.get i

/-- R14: `x[i] <- v`. -/
def State.setReg (i : RegIdx) (v : IU) (s : State) : State := { s with regs := s.regs.set i v }

/-- R14: `Z <- z; C <- c`. -/
def State.setFlags (z c : Bool) (s : State) : State := { s with z := z, c := c }

/-! ### Memory -/

/-- R44: the IU of a cell. -/
def Memory.read : Memory → Nat → IU
  | [], _ => Memory.unlisted
  | (b, u) :: m, a => if a = b then u else Memory.read m a

/-- R44: the memory with one cell replaced, in canonical form. -/
def Memory.write : Memory → Nat → IU → Memory
  | [], a, v => if v = Memory.unlisted then [] else [(a, v)]
  | (b, u) :: m, a, v =>
    if a < b then (if v = Memory.unlisted then (b, u) :: m else (a, v) :: (b, u) :: m)
    else if a = b then (if v = Memory.unlisted then m else (a, v) :: m)
    else (b, u) :: Memory.write m a v

/-- The canonical form: addresses strictly rising, and no entry equal to what an unlisted address reads as. -/
def Memory.wf : Memory → Bool
  | [] => true
  | (a, v) :: m => v != Memory.unlisted && m.all (fun cell => decide (a < cell.1)) && Memory.wf m

/-- R14: the `n` cells from `a`, lowest address first. -/
def Memory.readMany (m : Memory) (a : Nat) : Nat → List IU
  | 0 => []
  | n + 1 => m.read a :: Memory.readMany m (a + 1) n

/-- R14: the memory with the cells from `a` replaced, lowest address first. -/
def Memory.writeMany (m : Memory) (a : Nat) : List IU → Memory
  | [] => m
  | v :: vs => Memory.writeMany (m.write a v) (a + 1) vs

/-- R44: `MemRead(a, 1)`. -/
def State.cell (s : State) (a : Nat) : IU := s.mem.read a

/-- R14: `MemRead(a, n)`. -/
def State.cells (s : State) (a n : Nat) : List IU := s.mem.readMany a n

/-- R44: `MemWrite(a, 1, v)`. -/
def State.setCell (a : Nat) (v : IU) (s : State) : State := { s with mem := s.mem.write a v }

/-- R14: `MemWrite(a, n, vs)`. -/
def State.setCells (a : Nat) (vs : List IU) (s : State) : State := { s with mem := s.mem.writeMany a vs }

/-- R7, R30, R262: `MEM_CAP` is in its range and memory lists cells below it, in canonical form. -/
def State.memoryInRange (s : State) : Bool :=
  decide (s.memCap ≤ Config.memCapLimit) && s.mem.wf && s.mem.all (fun cell => decide (cell.1 < s.memCap))

/-! ### The program counter, the halt and the entry of a fault -/

/-- R28: `pc <- pc + 1`. -/
def State.advance (s : State) : State := { s with pc := s.pc + 1 }

/-- R28: `pc <- t`. -/
def State.jumpTo (t : Index) (s : State) : State := { s with pc := t }

/-- R15, R183: `halt`. -/
def State.halt (s : State) : State := { s with status := .halted }

/-- R236: taking a fault: the status records the reason and nothing else changes; no state is saved, and control goes to no
handler. There is no return from it (R238). -/
def State.raise (r : FaultReason) (s : State) : State := { s with status := .faulted r }

/-- R171, R174: the count of an instruction that passed the step limit, before its effect. -/
def State.count (s : State) : State := { s with tick := s.tick + 1, steps := s.steps + 1 }

/-- R173: the word at the program counter, if the program store has one there. -/
def State.fetch (s : State) : Option Word36 := s.prog[s.pc.toNat]?

/-! ### What every instruction does -/

/-- R75, R22: an instruction that is not well formed takes its DecodeFault; a well-formed one has its effect. Either way the
machine answers a next state. -/
def State.checked (i : Instr) (effect : State → State) (s : State) : Host.Outcome State Fault Refusal :=
  .next (match i.formFault with
    | some f => s.raise (.decodeFault f)
    | none => effect s)

/-- R43, R45: an access to the `n` cells from `b`, checked whole before any cell is touched: it takes AddressFault of its
highest address when it runs past `MEM_CAP`, and goes on as `k` otherwise. No cell, no fault. -/
def State.withArea (b n : Nat) (k : State → State) (s : State) : State :=
  if 0 < n ∧ s.memCap < b + n then s.raise (.addressFault (b + n - 1)) else k s

/-- R108: the writes of an ALU-class instruction. -/
def State.writeAlu (rd : RegIdx) (r : AluResult) (s : State) : State :=
  ((s.setReg rd r.value).setFlags (zeroFlag r.value) r.carry).advance

/-- R28: the writes of an instruction whose one result goes to a register and that leaves the flags. -/
def State.writeReg (rd : RegIdx) (v : IU) (s : State) : State := (s.setReg rd v).advance

/-- R179: a transfer of control, with its target checked against the program's length. -/
def State.transfer (t : Index) (s : State) : State :=
  if s.prog.length ≤ t.toNat then s.raise (.controlFault t) else s.jumpTo t

/-! ### The store port -/

/-- R34, R202: a request and its response join the port history. -/
def State.record (e : PortEvent) (s : State) : State := { s with history := s.history ++ [e] }

/-- R202, log 6: the answer to `unfold(d)`: the response lined up first, or, with none, a free value. -/
def State.unfoldAnswer (s : State) (d : IU) : UnfoldResponse :=
  match s.unfoldAnswers with
  | r :: _ => r
  | [] => Config.unfoldDraw s.contentStore s.history d

/-- R207: the request `Port.unfold(d)`: its answer is used up and recorded. -/
def State.requestUnfold (d : IU) (s : State) : State :=
  { s.record (.unfold d (s.unfoldAnswer d)) with unfoldAnswers := s.unfoldAnswers.tail }

/-- R202, log 7: a query answers a SET of triplets, listed in some order: a repetition lists no further triplet. -/
def distinct : List Triplet → List Triplet
  | [] => []
  | t :: ts => if t ∈ ts then distinct ts else t :: distinct ts

/-- R202, log 6, log 7: the answer to a query whose free value is `draw`. -/
def State.queryAnswer (s : State) (draw : List Triplet) : List Triplet :=
  match s.queryAnswers with
  | ts :: _ => distinct ts
  | [] => distinct draw

/-- R209: the answer to `Port.query_exact(mask, pat)`. -/
def State.exactAnswer (s : State) (mask : Mask3) (pat : Pattern IU) : List Triplet :=
  s.queryAnswer (Config.queryExactDraw s.drsStore s.history mask pat)

/-- R210: the answer to `Port.query_by_basin(mask, sig)`. -/
def State.basinAnswer (s : State) (mask : Mask3) (sig : Pattern BasinId) : List Triplet :=
  s.queryAnswer (Config.queryByBasinDraw s.drsStore s.history mask sig)

/-- R209, R210: a query's request: its answer is used up and recorded. -/
def State.requestQuery (e : PortEvent) (s : State) : State :=
  { s.record e with queryAnswers := s.queryAnswers.tail }

/-- R209: the three components of a pattern, constrained as the mask says. -/
def maskedPattern {α : Type} (mask : Mask3) (s r o : α) : Pattern α where
  subject := if mask.getLsbD 2 then some s else none
  relation := if mask.getLsbD 1 then some r else none
  object := if mask.getLsbD 0 then some o else none

/-- R209: the cells of a list of triplets, each subject, relation, object. -/
def cellsOf : List Triplet → List IU
  | [] => []
  | t :: ts => t.subject :: t.relation :: t.object :: cellsOf ts

/-- R204 steps 4 to 6: a response of `count` items, held in `vs`, is taken: StoreFault when an IU cannot count it,
AddressFault when it does not fit from `b`, and otherwise written from `b` with its count in `rd`. -/
def State.deliver (rd : RegIdx) (b : Nat) (vs : List IU) (count : Nat) (s : State) : State :=
  if Config.mask < count then s.raise (.storeFault (.responseTooLong count))
  else s.withArea b vs.length fun s => (s.setCells b vs).writeReg rd (BitVec.ofNat 12 count)

end Sys2Proof.Machine
end

