-- ==== Sys2Proof/Machine/Operands.lean ====
section
/-! DEFINITION. Every operand form the spec gives (spec/40_alu.md R107; spec/20_memory.md R42; spec/30_encoding.md R67). -/

namespace Sys2Proof.Machine

/-- R107: `val(Reg(i)) = x[i]`, `val(Imm(v)) = v`. -/
def State.val (s : State) : Operand → IU
  | .reg i => s.reg i
  | .imm v => v

/-- R42, R150: the effective address, an unsigned number; no offset, no update. -/
def State.address (s : State) : Addr → Nat
  | .abs a => a.toNat
  | .ind ra => (s.reg ra).toNat

/-- R67: whether a condition holds. -/
def State.holds (s : State) : Cond → Bool
  | .z => s.z
  | .nz => !s.z
  | .c => s.c
  | .nc => !s.c

end Sys2Proof.Machine
end

