-- ==== Sys2Proof/Machine/Alu.lean ====
section
/-! DEFINITION. The meanings of the ALU instructions (spec/40_alu.md R108 to R121). -/

namespace Sys2Proof.Machine

/-- R110. -/
def execAdd (rd : RegIdx) (a b : Operand) (s : State) : Host.Outcome State Fault Refusal :=
  s.checked (.add rd a b) fun s => s.writeAlu rd (addResult (s.val a) (s.val b))

/-- R111. -/
def execSub (rd : RegIdx) (a b : Operand) (s : State) : Host.Outcome State Fault Refusal :=
  s.checked (.sub rd a b) fun s => s.writeAlu rd (subResult (s.val a) (s.val b))

/-- R112. -/
def execAnd (rd : RegIdx) (a b : Operand) (s : State) : Host.Outcome State Fault Refusal :=
  s.checked (.and rd a b) fun s => s.writeAlu rd (andResult (s.val a) (s.val b))

/-- R113. -/
def execOr (rd : RegIdx) (a b : Operand) (s : State) : Host.Outcome State Fault Refusal :=
  s.checked (.or rd a b) fun s => s.writeAlu rd (orResult (s.val a) (s.val b))

/-- R114. -/
def execXor (rd : RegIdx) (a b : Operand) (s : State) : Host.Outcome State Fault Refusal :=
  s.checked (.xor rd a b) fun s => s.writeAlu rd (xorResult (s.val a) (s.val b))

/-- R115. -/
def execNot (rd : RegIdx) (a : Operand) (s : State) : Host.Outcome State Fault Refusal :=
  s.checked (.not rd a) fun s => s.writeAlu rd (notResult (s.val a))

/-- R116. -/
def execShl (rd : RegIdx) (a b : Operand) (s : State) : Host.Outcome State Fault Refusal :=
  s.checked (.shl rd a b) fun s => s.writeAlu rd (shlResult (s.val a) (s.val b))

/-- R117. -/
def execShr (rd : RegIdx) (a b : Operand) (s : State) : Host.Outcome State Fault Refusal :=
  s.checked (.shr rd a b) fun s => s.writeAlu rd (shrResult (s.val a) (s.val b))

/-- R118. -/
def execSar (rd : RegIdx) (a b : Operand) (s : State) : Host.Outcome State Fault Refusal :=
  s.checked (.sar rd a b) fun s => s.writeAlu rd (sarResult (s.val a) (s.val b))

/-- R119. -/
def execRol (rd : RegIdx) (a b : Operand) (s : State) : Host.Outcome State Fault Refusal :=
  s.checked (.rol rd a b) fun s => s.writeAlu rd (rolResult (s.val a) (s.val b))

/-- R120: no flag is written. -/
def execLoadk (rd : RegIdx) (v : IU) (s : State) : Host.Outcome State Fault Refusal :=
  s.checked (.loadk rd v) fun s => s.writeReg rd v

/-- R121: no flag is written. -/
def execMov (rd rs : RegIdx) (s : State) : Host.Outcome State Fault Refusal :=
  s.checked (.mov rd rs) fun s => s.writeReg rd (s.reg rs)

end Sys2Proof.Machine
end

