-- ==== Sys2Proof/Machine/Collaborator.lean ====
section
/-! DEFINITION. The meanings of the collaborator instructions, up to the store port (spec/43_collaborator.md R204 to R210). -/

namespace Sys2Proof.Machine

/-- R205: a dynamics rule on a register; no port request. -/
def execApply (rd : RegIdx) (rule : RuleId) (s : State) : Host.Outcome State Fault Refusal :=
  s.checked (.apply rd rule) fun s => s.writeReg rd (Config.applyFn rule (s.reg rd))

/-- R206: the digest of the `x[rn]` cells from `x[ra]`. -/
def execEnfold (rd ra rn : RegIdx) (s : State) : Host.Outcome State Fault Refusal :=
  s.checked (.enfold rd ra rn) fun s =>
    s.withArea (s.reg ra).toNat (s.reg rn).toNat fun s =>
      let seq := s.cells (s.reg ra).toNat (s.reg rn).toNat
      (s.record (.enfold seq (Config.enfoldFn seq))).writeReg rd (Config.enfoldFn seq)

/-- R207: the sequence of the digest `x[rs]`, to the cells from `x[ra]`. -/
def execUnfold (rd ra rs : RegIdx) (s : State) : Host.Outcome State Fault Refusal :=
  s.checked (.unfold rd ra rs) fun s =>
    match s.unfoldAnswer (s.reg rs) with
    | .notFound => (s.requestUnfold (s.reg rs)).raise (.storeFault (.notFound (s.reg rs)))
    | .sequence seq => (s.requestUnfold (s.reg rs)).deliver rd (s.reg ra).toNat seq seq.length

/-- R208: a fact for the DRS Store. -/
def execDrsins (rs rr ro : RegIdx) (s : State) : Host.Outcome State Fault Refusal :=
  s.checked (.drsins rs rr ro) fun s =>
    (s.record (.insert ⟨s.reg rs, s.reg rr, s.reg ro⟩)).advance

/-- R209: the pattern that a query reads from the three cells at `p`. -/
def State.exactPattern (s : State) (mask : Mask3) (p : Nat) : Pattern IU :=
  maskedPattern mask (s.cell p) (s.cell (p + 1)) (s.cell (p + 2))

/-- R210: the basin signature that a query computes from the three cells at `p`. -/
def State.basinSignature (s : State) (mask : Mask3) (p : Nat) : Pattern BasinId :=
  maskedPattern mask (Config.basinFn (s.cell p)) (Config.basinFn (s.cell (p + 1))) (Config.basinFn (s.cell (p + 2)))

/-- R209: an exact query, its pattern at `x[ra]`, its results from `x[rb]`. -/
def execDrsqe (rd ra rb : RegIdx) (mask : Mask3) (s : State) : Host.Outcome State Fault Refusal :=
  s.checked (.drsqe rd ra rb mask) fun s =>
    s.withArea (s.reg ra).toNat 3 fun s =>
      let pat := s.exactPattern mask (s.reg ra).toNat
      let ts := s.exactAnswer mask pat
      (s.requestQuery (.queryExact mask pat ts)).deliver rd (s.reg rb).toNat (cellsOf ts) ts.length

/-- R210: a query by basin, laid out as the exact one. -/
def execDrsqb (rd ra rb : RegIdx) (mask : Mask3) (s : State) : Host.Outcome State Fault Refusal :=
  s.checked (.drsqb rd ra rb mask) fun s =>
    s.withArea (s.reg ra).toNat 3 fun s =>
      let sig := s.basinSignature mask (s.reg ra).toNat
      let ts := s.basinAnswer mask sig
      (s.requestQuery (.queryByBasin mask sig ts)).deliver rd (s.reg rb).toNat (cellsOf ts) ts.length

end Sys2Proof.Machine
end

