-- ==== Sys2Proof/Machine/Control.lean ====
section
/-! DEFINITION. The meanings of JUMP, JUMPIF and HALT (spec/42_control.md R179 to R183). -/

namespace Sys2Proof.Machine

/-- R181: the target is checked on every execution. -/
def execJump (target : Index) (s : State) : Host.Outcome State Fault Refusal :=
  s.checked (.jump target) fun s => s.transfer target

/-- R182, D19: the target is checked only when the jump is taken. -/
def execJumpif (cond : Cond) (target : Index) (s : State) : Host.Outcome State Fault Refusal :=
  s.checked (.jumpif cond target) fun s => if s.holds cond then s.transfer target else s.advance

/-- R183, D18: the program counter stays at the HALT. -/
def execHalt (s : State) : Host.Outcome State Fault Refusal :=
  s.checked .halt fun s => s.halt

end Sys2Proof.Machine
end

