-- ==== Sys2Proof/Machine/LoadStore.lean ====
section
/-! DEFINITION. The meanings of LOAD and STORE (spec/41_load_store.md R150 to R154). -/

namespace Sys2Proof.Machine

/-- R152: memory to register. -/
def execLoad (rd : RegIdx) (addr : Addr) (s : State) : Host.Outcome State Fault Refusal :=
  s.checked (.load rd addr) fun s =>
    s.withArea (s.address addr) 1 fun s => s.writeReg rd (s.cell (s.address addr))

/-- R153: register to memory. -/
def execStore (rs : RegIdx) (addr : Addr) (s : State) : Host.Outcome State Fault Refusal :=
  s.checked (.store rs addr) fun s =>
    s.withArea (s.address addr) 1 fun s => (s.setCell (s.address addr) (s.reg rs)).advance

end Sys2Proof.Machine
end

