-- ==== Sys2Proof/Machine/Dispatch.lean ====
section
/-! DEFINITION. The instruction dispatch: one arm for each constructor of Instr (spec/42_control.md R175). -/

namespace Sys2Proof.Machine

def exec (i : Instr) (s : State) : Host.Outcome State Fault Refusal :=
  match i with
  | .halt => Sys2Proof.Machine.execHalt s
  | .add rd a b => Sys2Proof.Machine.execAdd rd a b s
  | .sub rd a b => Sys2Proof.Machine.execSub rd a b s
  | .and rd a b => Sys2Proof.Machine.execAnd rd a b s
  | .or rd a b => Sys2Proof.Machine.execOr rd a b s
  | .xor rd a b => Sys2Proof.Machine.execXor rd a b s
  | .not rd a => Sys2Proof.Machine.execNot rd a s
  | .shl rd a b => Sys2Proof.Machine.execShl rd a b s
  | .shr rd a b => Sys2Proof.Machine.execShr rd a b s
  | .sar rd a b => Sys2Proof.Machine.execSar rd a b s
  | .rol rd a b => Sys2Proof.Machine.execRol rd a b s
  | .loadk rd v => Sys2Proof.Machine.execLoadk rd v s
  | .mov rd rs => Sys2Proof.Machine.execMov rd rs s
  | .load rd addr => Sys2Proof.Machine.execLoad rd addr s
  | .store rs addr => Sys2Proof.Machine.execStore rs addr s
  | .jump target => Sys2Proof.Machine.execJump target s
  | .jumpif cond target => Sys2Proof.Machine.execJumpif cond target s
  | .apply rd rule => Sys2Proof.Machine.execApply rd rule s
  | .enfold rd ra rn => Sys2Proof.Machine.execEnfold rd ra rn s
  | .unfold rd ra rs => Sys2Proof.Machine.execUnfold rd ra rs s
  | .drsins rs rr ro => Sys2Proof.Machine.execDrsins rs rr ro s
  | .drsqe rd ra rb mask => Sys2Proof.Machine.execDrsqe rd ra rb mask s
  | .drsqb rd ra rb mask => Sys2Proof.Machine.execDrsqb rd ra rb mask s

end Sys2Proof.Machine
end

