-- ==== Sys2Proof/Machine/Engine.lean ====
section
/-! DEFINITION. The fetch-decode-execute engine (spec/42_control.md R171 to R176) and the placing of one instruction where it
fetches next. -/

namespace Sys2Proof.Machine

/-- R171: one step of a running machine: the implicit halt (R172), the step limit (R174), decode, execute, in this order
(R239). -/
def stepRunning (s : State) : Host.Outcome State Fault Refusal :=
  match s.fetch with
  | none => .next s.halt
  | some w =>
    if s.maxSteps ≤ s.steps then .next (s.raise .resourceExhausted)
    else
      match decode w with
      | .error f => .next (s.count.raise (.decodeFault f))
      | .ok i => exec i s.count

/-- R32, R249: a machine whose run has ended does nothing (DEDUCED, log 8); a running one takes a step. -/
def engineStep (s : State) : Host.Outcome State Fault Refusal :=
  match s.status with
  | .running => stepRunning s
  | .halted => .next s
  | .faulted _ => .next s

/-- A program store with the word `w` at index `n`: the word there is replaced, or the store is extended to it with
all-zero words (HALT). -/
def placeWord : List Word36 → Nat → Word36 → List Word36
  | [], 0, w => [w]
  | [], n + 1, w => 0 :: placeWord [] n w
  | _ :: ws, 0, w => w :: ws
  | v :: ws, n + 1, w => v :: placeWord ws n w

/-- The state in which the next step fetches and runs the word `w`: it stands at the program counter of a running machine
whose step limit is not yet reached (R171; log 4). -/
def State.placed (s : State) (w : Word36) : State :=
  { s with
    prog := placeWord s.prog s.pc.toNat w
    status := .running
    maxSteps := max s.maxSteps (s.steps + 1) }

end Sys2Proof.Machine
end

