-- ==== Sys2Proof/Machine/Step.lean ====
section
/-! DEFINITION. One step of the machine, and the state whose next step runs a given instruction. -/

namespace Sys2Proof.Machine

/-- R171: one step. -/
def step (s : State) : Host.Outcome State Fault Refusal := engineStep s

/-- The state whose next step fetches and runs the instruction word whose bits are `w`, those above `nbits` being zero (log 4). -/
def State.withFetchWord (s : State) (nbits w : Nat) : State := s.placed (BitVec.ofNat 36 (w % 2 ^ nbits))

end Sys2Proof.Machine
end

