-- ==== Sys2Proof/Machine/Asm.lean ====
section
/-! DEFINITION. The assembler (spec/30_encoding.md R79) and the pseudo-instructions (R80), over the characters of a source text.
No step of the machine uses this file; the conventions that R79 leaves open are log 14. -/

namespace Sys2Proof.Machine

/-! ### Pseudo-instructions -/

/-- R80: `NOP`. -/
def pseudoNop : Instr := .mov 0 (0 : RegIdx)
/-- R80: `JZ t`. -/
def pseudoJz (t : Index) : Instr := .jumpif .z t
/-- R80: `JNZ t`. -/
def pseudoJnz (t : Index) : Instr := .jumpif .nz t
/-- R80: `JC t`. -/
def pseudoJc (t : Index) : Instr := .jumpif .c t
/-- R80: `JNC t`. -/
def pseudoJnc (t : Index) : Instr := .jumpif .nc t
/-- R80: `CLR rd`. -/
def pseudoClr (rd : RegIdx) : Instr := .loadk rd 0
/-- R80: `TST rs`. -/
def pseudoTst (rs : RegIdx) : Instr := .or rs (.reg rs) (.imm 0)
/-- R80: `INC rd`. -/
def pseudoInc (rd : RegIdx) : Instr := .add rd (.reg rd) (.imm 1)
/-- R80: `DEC rd`. -/
def pseudoDec (rd : RegIdx) : Instr := .sub rd (.reg rd) (.imm 1)
/-- R80: `NEG rd, rs`. -/
def pseudoNeg (rd rs : RegIdx) : Instr := .sub rd (.imm 0) (.reg rs)

/-! ### Text -/

/-- The pieces of a text between the characters `sep`. -/
def splitAtChar (sep : Char) : List Char → List (List Char)
  | [] => [[]]
  | ch :: rest =>
    if ch = sep then [] :: splitAtChar sep rest
    else
      match splitAtChar sep rest with
      | [] => [[ch]]
      | piece :: pieces => (ch :: piece) :: pieces

/-- A blank. -/
def isBlank (ch : Char) : Bool := ch == ' ' || ch == '\t' || ch == '\r'

/-- A text without its leading blanks. -/
def trimLeft : List Char → List Char
  | [] => []
  | ch :: rest => if isBlank ch then trimLeft rest else ch :: rest

/-- A text without its leading and trailing blanks. -/
def trimBlanks (text : List Char) : List Char := (trimLeft (trimLeft text).reverse).reverse

/-- R79: what stands before a comment. -/
def beforeComment : List Char → List Char
  | [] => []
  | ch :: rest => if ch = ';' then [] else ch :: beforeComment rest

/-- The first word of a text and what follows it. -/
def firstWord : List Char → List Char × List Char
  | [] => ([], [])
  | ch :: rest => if isBlank ch then ([], rest) else (ch :: (firstWord rest).1, (firstWord rest).2)

/-- R79: mnemonics are case-insensitive. -/
def upperChar (ch : Char) : Char := if 'a' ≤ ch ∧ ch ≤ 'z' then Char.ofNat (ch.toNat - 32) else ch

/-! ### Numbers -/

/-- The value of a digit of a base. -/
def digitOf (base : Nat) (ch : Char) : Option Nat :=
  let n := ch.toNat
  let v := if 48 ≤ n ∧ n ≤ 57 then n - 48 else if 97 ≤ n ∧ n ≤ 102 then n - 87 else if 65 ≤ n ∧ n ≤ 70 then n - 55 else base
  if v < base then some v else none

/-- The value of a string of digits of a base, read on from `acc`. -/
def digitsFrom (base : Nat) (acc : Nat) : List Char → Option Nat
  | [] => some acc
  | ch :: rest =>
    match digitOf base ch with
    | some d => digitsFrom base (acc * base + d) rest
    | none => none

/-- A nonempty string of digits of a base. -/
def digits (base : Nat) : List Char → Option Nat
  | [] => none
  | text => digitsFrom base 0 text

/-- R79: a number, decimal or `0x` hexadecimal; R78 also writes a mask as `0b` binary. -/
def number : List Char → Option Nat
  | '0' :: 'x' :: rest => digits 16 rest
  | '0' :: 'b' :: rest => digits 2 rest
  | text => digits 10 text

/-! ### Operands -/

/-- R79: the forms of an operand in a source text. -/
inductive Arg where
  | reg (i : RegIdx)
  | imm (n : Nat)
  | abs (n : Nat)
  | ind (i : RegIdx)
  | word (text : List Char)
deriving DecidableEq, Repr

/-- R79: `r0` to `r15`. -/
def registerName : List Char → Option RegIdx
  | 'r' :: rest =>
    match digits 10 rest with
    | some n => if n < 16 then some (BitVec.ofNat 4 n) else none
    | none => none
  | _ => none

/-- R79: the inside of a bracketed address; the source writes a literal as `addr=a`. -/
def bracketed (inside : List Char) : Option Arg :=
  match registerName inside with
  | some i => some (.ind i)
  | none =>
    match inside with
    | 'a' :: 'd' :: 'd' :: 'r' :: '=' :: rest => (number rest).map .abs
    | text => (number text).map .abs

/-- R79: an operand. DESIGN CHOICE (log 14), safe: a word that spells a register is a register, also where a label of that name
stands; the spec does not restrict the names of labels, and such a label is no jump target. -/
def argOf (text : List Char) : Option Arg :=
  match text with
  | [] => none
  | '#' :: rest => (number rest).map .imm
  | '[' :: rest =>
    match rest.reverse with
    | ']' :: inside => bracketed (trimBlanks inside.reverse)
    | _ => none
  | _ =>
    match registerName text with
    | some i => some (.reg i)
    | none => some (.word text)

/-- The operands of an instruction, separated by commas; none of them for an empty text. -/
def argsOf (text : List Char) : Option (List Arg) :=
  if (trimBlanks text).isEmpty then some []
  else (splitAtChar ',' text).mapM fun piece => argOf (trimBlanks piece)

/-- R79: an operand of an ALU instruction. -/
def Arg.operand : Arg → Option Operand
  | .reg i => some (.reg i)
  | .imm n => if n ≤ Config.mask then some (.imm (BitVec.ofNat 12 n)) else none
  | _ => none

/-- R79: a 12-bit immediate. -/
def Arg.immediate : Arg → Option (BitVec 12)
  | .imm n => if n ≤ Config.mask then some (BitVec.ofNat 12 n) else none
  | _ => none

/-- R79: the address of a LOAD or a STORE. -/
def Arg.address : Arg → Option Addr
  | .abs n => if n < 2 ^ 24 then some (.abs (BitVec.ofNat 24 n)) else none
  | .ind i => some (.ind i)
  | _ => none

/-- R78, R79: the mask of a query. -/
def Arg.queryMask : Arg → Option Mask3
  | .imm n => if n < 8 then some (BitVec.ofNat 3 n) else none
  | _ => none

/-- R79: the labels of a program and the indices they denote. -/
abbrev Labels := List (List Char × Nat)

/-- R79: the index that a label denotes. DESIGN CHOICE (log 14), safe: of a label defined twice, which the spec does not speak of,
the first definition counts, and the text is not refused. -/
def labelled : Labels → List Char → Option Nat
  | [], _ => none
  | (name, n) :: rest, text => if text = name then some n else labelled rest text

/-- R79: a jump target, an instruction index or a label. -/
def targetOf (labels : Labels) (text : List Char) : Option Index :=
  match number text with
  | some n => if n < 2 ^ 24 then some (BitVec.ofNat 24 n) else none
  | none => (labelled labels text).map (BitVec.ofNat 24)

/-- R79: a jump target as an operand. -/
def Arg.target (labels : Labels) : Arg → Option Index
  | .word text => targetOf labels text
  | _ => none

/-- R79: a condition. -/
def Arg.cond : Arg → Option Cond
  | .word text =>
    let upper := text.map upperChar
    if upper = "Z".toList then some .z
    else if upper = "NZ".toList then some .nz
    else if upper = "C".toList then some .c
    else if upper = "NC".toList then some .nc
    else none
  | _ => none

/-- R79: the source's spellings `Carry->t` and `Zero->t`. -/
def sourceJump (labels : Labels) : List Char → Option Instr
  | 'C' :: 'a' :: 'r' :: 'r' :: 'y' :: '-' :: '>' :: t => (targetOf labels t).map (.jumpif .c)
  | 'Z' :: 'e' :: 'r' :: 'o' :: '-' :: '>' :: t => (targetOf labels t).map (.jumpif .z)
  | _ => none

/-! ### Instructions -/

/-- The nine binary ALU forms `OP rd, a, b`. -/
def binary (make : RegIdx → Operand → Operand → Instr) : List Arg → Option Instr
  | [.reg rd, a, b] =>
    match a.operand, b.operand with
    | some va, some vb => some (make rd va vb)
    | _, _ => none
  | _ => none

/-- R79: the forms of the other instructions, and R80's pseudo-instructions: `name`, in capitals, with its operands. -/
def otherForm (labels : Labels) (name : List Char) (args : List Arg) : Option Instr :=
  if name = "HALT".toList then (match args with | [] => some .halt | _ => none)
  else if name = "NOT".toList then (match args with | [.reg rd, a] => a.operand.map (.not rd) | _ => none)
  else if name = "LOADK".toList ∨ name = "LOADCONST".toList then
    (match args with | [.reg rd, v] => v.immediate.map (.loadk rd) | _ => none)
  else if name = "MOV".toList ∨ name = "MOVEREG".toList then
    (match args with | [.reg rd, .reg rs] => some (.mov rd rs) | _ => none)
  else if name = "LOAD".toList then (match args with | [.reg rd, a] => a.address.map (.load rd) | _ => none)
  else if name = "STORE".toList then (match args with | [.reg rs, a] => a.address.map (.store rs) | _ => none)
  else if name = "JUMP".toList then (match args with | [t] => (t.target labels).map .jump | _ => none)
  else if name = "JUMPIF".toList then
    (match args with
      | [.word text] => sourceJump labels text
      | [cnd, t] => (match cnd.cond, t.target labels with | some k, some n => some (.jumpif k n) | _, _ => none)
      | _ => none)
  else if name = "APPLY".toList then (match args with | [.reg rd, v] => v.immediate.map (.apply rd) | _ => none)
  else if name = "ENFOLD".toList then
    (match args with | [.reg rd, .ind ra, .reg rn] => some (.enfold rd ra rn) | _ => none)
  else if name = "UNFOLD".toList then
    (match args with | [.reg rd, .ind ra, .reg rs] => some (.unfold rd ra rs) | _ => none)
  else if name = "DRSINS".toList then
    (match args with | [.reg rs, .reg rr, .reg ro] => some (.drsins rs rr ro) | _ => none)
  else if name = "DRSQE".toList then
    (match args with | [.reg rd, .ind ra, .ind rb, k] => k.queryMask.map (.drsqe rd ra rb) | _ => none)
  else if name = "DRSQB".toList then
    (match args with | [.reg rd, .ind ra, .ind rb, k] => k.queryMask.map (.drsqb rd ra rb) | _ => none)
  else if name = "NOP".toList then (match args with | [] => some pseudoNop | _ => none)
  else if name = "JZ".toList then (match args with | [t] => (t.target labels).map pseudoJz | _ => none)
  else if name = "JNZ".toList then (match args with | [t] => (t.target labels).map pseudoJnz | _ => none)
  else if name = "JC".toList then (match args with | [t] => (t.target labels).map pseudoJc | _ => none)
  else if name = "JNC".toList then (match args with | [t] => (t.target labels).map pseudoJnc | _ => none)
  else if name = "CLR".toList then (match args with | [.reg rd] => some (pseudoClr rd) | _ => none)
  else if name = "TST".toList then (match args with | [.reg rs] => some (pseudoTst rs) | _ => none)
  else if name = "INC".toList then (match args with | [.reg rd] => some (pseudoInc rd) | _ => none)
  else if name = "DEC".toList then (match args with | [.reg rd] => some (pseudoDec rd) | _ => none)
  else if name = "NEG".toList then (match args with | [.reg rd, .reg rs] => some (pseudoNeg rd rs) | _ => none)
  else none

/-- R79: an instruction, its name in capitals. -/
def instrForm (labels : Labels) (name : List Char) (args : List Arg) : Option Instr :=
  if name = "ADD".toList then binary .add args
  else if name = "SUB".toList then binary .sub args
  else if name = "AND".toList then binary .and args
  else if name = "OR".toList then binary .or args
  else if name = "XOR".toList then binary .xor args
  else if name = "SHL".toList then binary .shl args
  else if name = "SHR".toList then binary .shr args
  else if name = "SAR".toList then binary .sar args
  else if name = "ROL".toList then binary .rol args
  else otherForm labels name args

/-- R79: the instruction of a text without label and comment. -/
def instrOf (labels : Labels) (text : List Char) : Option Instr :=
  match argsOf (firstWord text).2 with
  | some args => instrForm labels ((firstWord text).1.map upperChar) args
  | none => none

/-! ### Programs -/

/-- A line without its comment: the label it opens with, if any, and its instruction's text, empty where it has none. -/
def lineOf (text : List Char) : Option (List Char) × List Char :=
  match splitAtChar ':' (beforeComment text) with
  | [label, rest] => (some (trimBlanks label), trimBlanks rest)
  | _ => (none, trimBlanks (beforeComment text))

/-- R79: the labels of the lines from instruction index `n` on; a label denotes the instruction that follows it. DESIGN CHOICE
(log 14), safe: a label that no instruction follows, of which the spec does not speak, denotes the length of the program. -/
def labelsFrom (n : Nat) : List (Option (List Char) × List Char) → Labels
  | [] => []
  | (label, text) :: rest =>
    let more := labelsFrom (if text.isEmpty then n else n + 1) rest
    match label with
    | some name => (name, n) :: more
    | none => more

/-- The instructions of the lines, none where a line is not of a form of R79. -/
def instrsOf (labels : Labels) : List (Option (List Char) × List Char) → Option (List Instr)
  | [] => some []
  | (_, text) :: rest =>
    if text.isEmpty then instrsOf labels rest
    else
      match instrOf labels text, instrsOf labels rest with
      | some i, some is => some (i :: is)
      | _, _ => none

/-- R79: the program of a source text, as instructions; none where it does not follow the syntax. -/
def assembleText (source : List Char) : Option (List Instr) :=
  let lines := (splitAtChar '\n' source).map lineOf
  instrsOf (labelsFrom 0 lines) lines

/-- R79, R62: the program of a source text, as the words of the program store. -/
def assembleProgram (source : List Char) : Option (List Word36) := (assembleText source).map (·.map encode)

end Sys2Proof.Machine
end

