-- ==== Sys2Proof/Machine/Run.lean ====
section
/-! DEFINITION. The host's one entry point, `run_scenario` (spec/42_control.md R170; spec/70_reset_and_hazards.md R262 to
R266), with what the host must refuse before a run (spec/93_implementation_defined.md) and what it gets back (spec/00_scope.md
R19; spec/10_state.md R33, R35). -/

namespace Sys2Proof.Machine

/-- R32: a terminal status. -/
def Status.ended : Status → Bool
  | .running => false
  | .halted => true
  | .faulted _ => true

/-- R170, R262: the state in which a run starts: the supplied state with the program and the limit of the run, running, no
step taken, and no port request made yet. The refusals are R8, D38 and R262. -/
def startRun (prog : List Word36) (s0 : State) (maxSteps : Int) : Host.Outcome State Fault Refusal :=
  if Config.lenLimit < prog.length then .refused (.programTooLong prog.length)
  else if maxSteps < 0 then .refused .negativeStepLimit
  else if s0.memoryInRange then
    .next { s0 with prog := prog, maxSteps := maxSteps.toNat, status := .running, steps := 0, history := [] }
  else .refused .startStateOutOfRange

/-- R170: steps while the status is Running, at most the given number of them. -/
def runSteps : Nat → State → Host.Outcome State Fault Refusal
  | 0, s => .next s
  | n + 1, s =>
    if s.status.ended then .next s
    else
      match step s with
      | .next t => runSteps n t
      | .fault f => .fault f
      | .refused r => .refused r

/-- R170, R177, R266: a run to its first state whose status is terminal, within `MAX_STEPS + 1` steps: the machine's own view of
its end, hidden state included. -/
def runToEnd (prog : List Word36) (s0 : State) (maxSteps : Int) : Host.Outcome State Fault Refusal :=
  match startRun prog s0 maxSteps with
  | .next s => runSteps (s.maxSteps + 1) s
  | .fault f => .fault f
  | .refused r => .refused r

/-- R19, R35: the final state as the host reads it: the components of R38 that R20, R30 and R35 let it read, and the store
handles of R34. The step count is hidden (R33) and has no field here, the status is the outcome, and the port history is the
environment's (R34). -/
structure FinalState where
  /-- R20. -/
  regs : RegFile
  /-- R26, R35. -/
  z : Bool
  /-- R26, R35. -/
  c : Bool
  /-- R30. -/
  mem : Memory
  /-- R35. -/
  pc : Index
  /-- R31, R35. -/
  tick : Nat
  /-- R34. -/
  contentStore : StoreHandle
  /-- R34. -/
  drsStore : StoreHandle
deriving DecidableEq, Repr

/-- R19, R266: the result of a run, the pair of the final state and the outcome. -/
structure RunResult where
  finalState : FinalState
  /-- R32, R35: the status in which the run ended. -/
  outcome : Status
deriving DecidableEq, Repr

/-- R33, R35: what of a state is reported to the host. -/
def State.reported (s : State) : RunResult where
  finalState := {
    regs := s.regs
    z := s.z
    c := s.c
    mem := s.mem
    pc := s.pc
    tick := s.tick
    contentStore := s.contentStore
    drsStore := s.drsStore }
  outcome := s.status

/-- R19, R170, R266: `run_scenario`: the host gets back the final state and the outcome, and nothing else of the machine. -/
def runScenario (prog : List Word36) (s0 : State) (maxSteps : Int) : Host.Outcome RunResult Fault Refusal :=
  match runToEnd prog s0 maxSteps with
  | .next t => .next t.reported
  | .fault f => .fault f
  | .refused r => .refused r

/-- R265: a run of a program handed over as a byte image. -/
def startRunFromImage (image : List (BitVec 8)) (s0 : State) (maxSteps : Int) : Host.Outcome State Fault Refusal :=
  match programOfImage image with
  | some prog => startRun prog s0 maxSteps
  | none => .refused .badImage

end Sys2Proof.Machine
end

