-- ==== Sys2Proof/Safety.lean ====
section
/-! DEFINITION. The terms in which statements about the machine are made: the states that runs live in, the fault reasons that
tell the truth, what an instruction is allowed to write, and the frames (what stays as it was). -/

namespace Sys2Proof.Machine

/-! ### Good states -/

/-- R7, R8, R30, R262: a state within the ranges of the spec: `MEM_CAP` and `LEN` in their bounds, and the data memory in
canonical form with every listed cell below `MEM_CAP`. -/
def State.wf (s : State) : Bool := s.memoryInRange && decide (s.prog.length ≤ Config.lenLimit)

/-- R230 to R235: a fault reason that tells the truth about the state in which it stands. -/
def FaultReason.truthful (s : State) : FaultReason → Prop
  | .decodeFault (.illegalOpcode op) => 0x17 ≤ op.toNat
  | .decodeFault .malformedOperand => True
  | .decodeFault (.badRegister i) => RegIdx.valid i = false
  | .addressFault a => s.memCap ≤ a
  | .controlFault t => s.prog.length ≤ t.toNat
  | .resourceExhausted => s.maxSteps ≤ s.steps
  | .storeFault (.notFound d) => PortEvent.unfold d .notFound ∈ s.history
  | .storeFault (.responseTooLong n) => 4095 < n

/-- R230 to R235: whatever fault the status records, its reason is true. -/
def State.faultTruthful (s : State) : Prop := ∀ r, s.status = .faulted r → r.truthful s

end Sys2Proof.Machine

namespace Sys2Proof

/-! ### What an instruction may write -/

/-- R21: the register an instruction writes, if it writes one. -/
def Instr.destination : Instr → Option RegIdx
  | .halt | .store _ _ | .jump _ | .jumpif _ _ | .drsins _ _ _ => none
  | .add rd _ _ | .sub rd _ _ | .and rd _ _ | .or rd _ _ | .xor rd _ _ | .not rd _
  | .shl rd _ _ | .shr rd _ _ | .sar rd _ _ | .rol rd _ _ | .loadk rd _ | .mov rd _
  | .load rd _ | .apply rd _ | .enfold rd _ _ | .unfold rd _ _ | .drsqe rd _ _ _ | .drsqb rd _ _ _ => some rd

/-- R17: the ALU-class instructions, which recompute the flags. -/
def Instr.aluClass : Instr → Bool
  | .add _ _ _ | .sub _ _ _ | .and _ _ _ | .or _ _ _ | .xor _ _ _ | .not _ _
  | .shl _ _ _ | .shr _ _ _ | .sar _ _ _ | .rol _ _ _ => true
  | .halt | .loadk _ _ | .mov _ _ | .load _ _ | .store _ _ | .jump _ | .jumpif _ _ | .apply _ _
  | .enfold _ _ _ | .unfold _ _ _ | .drsins _ _ _ | .drsqe _ _ _ _ | .drsqb _ _ _ _ => false

/-- R57: the instructions that write a cell. -/
def Instr.writesMemory : Instr → Bool
  | .store _ _ | .unfold _ _ _ | .drsqe _ _ _ _ | .drsqb _ _ _ _ => true
  | .halt | .add _ _ _ | .sub _ _ _ | .and _ _ _ | .or _ _ _ | .xor _ _ _ | .not _ _ | .shl _ _ _
  | .shr _ _ _ | .sar _ _ _ | .rol _ _ _ | .loadk _ _ | .mov _ _ | .load _ _ | .jump _ | .jumpif _ _
  | .apply _ _ | .enfold _ _ _ | .drsins _ _ _ => false

/-- R202: the instructions that issue a port request: the collaborator instructions except APPLY. -/
def Instr.usesPort : Instr → Bool
  | .enfold _ _ _ | .unfold _ _ _ | .drsins _ _ _ | .drsqe _ _ _ _ | .drsqb _ _ _ _ => true
  | .halt | .add _ _ _ | .sub _ _ _ | .and _ _ _ | .or _ _ _ | .xor _ _ _ | .not _ _ | .shl _ _ _
  | .shr _ _ _ | .sar _ _ _ | .rol _ _ _ | .loadk _ _ | .mov _ _ | .load _ _ | .store _ _ | .jump _
  | .jumpif _ _ | .apply _ _ => false

/-- R39, R202: the instructions whose response is a draw. -/
def Instr.draws : Instr → Bool
  | .unfold _ _ _ | .drsqe _ _ _ _ | .drsqb _ _ _ _ => true
  | .halt | .add _ _ _ | .sub _ _ _ | .and _ _ _ | .or _ _ _ | .xor _ _ _ | .not _ _ | .shl _ _ _
  | .shr _ _ _ | .sar _ _ _ | .rol _ _ _ | .loadk _ _ | .mov _ _ | .load _ _ | .store _ _ | .jump _
  | .jumpif _ _ | .apply _ _ | .enfold _ _ _ | .drsins _ _ _ => false

end Sys2Proof

namespace Sys2Proof.Machine

/-! ### Encoding and well-formedness of an instruction, as a rule gives them -/

/-- R69, R63: the word of the instruction has this opcode number, and the opcode has this format. -/
def EncodedAs (i : Instr) (number : BitVec 5) (f : Format) : Prop :=
  opField (encode i) = number ∧ (opOfNumber number).map Op.format = some f

/-- R22, R75: unless it is well formed, the instruction takes a DecodeFault and changes nothing but the status. -/
def DecodeFaultUnlessWf (i : Instr) (s : State) : Prop :=
  i.wf = false → ∃ k, exec i s = .next { s with status := .faulted (.decodeFault k) }

/-! ### Frames -/

/-- Every register but `rd` reads as before. -/
def SameRegsBut (rd : RegIdx) (s t : State) : Prop := ∀ r, r ≠ rd → t.reg r = s.reg r

/-- Every register reads as before. -/
def SameRegs (s t : State) : Prop := ∀ r, t.reg r = s.reg r

/-- Both flags are as before. -/
def SameFlags (s t : State) : Prop := t.z = s.z ∧ t.c = s.c

/-- Every cell reads as before. -/
def SameMem (s t : State) : Prop := ∀ a, t.cell a = s.cell a

/-- Every cell outside the `n` cells from `b` reads as before. -/
def SameMemOutside (b n : Nat) (s t : State) : Prop := ∀ a, a < b ∨ b + n ≤ a → t.cell a = s.cell a

/-- The port history and the lined-up responses are as before. -/
def SamePort (s t : State) : Prop :=
  t.history = s.history ∧ t.unfoldAnswers = s.unfoldAnswers ∧ t.queryAnswers = s.queryAnswers

/-- The counters, the configuration of the run and of the machine, and the store handles are as before. -/
def SameRun (s t : State) : Prop :=
  t.tick = s.tick ∧ t.steps = s.steps ∧ t.prog = s.prog ∧ t.maxSteps = s.maxSteps ∧ t.memCap = s.memCap
    ∧ t.contentStore = s.contentStore ∧ t.drsStore = s.drsStore

/-- An instruction completes with one register written: `t` has `v` in `rd` and the next program counter; every other
register, memory, the port and the rest of the run are as in `s`. The flags are not spoken of. -/
def CompletesWithReg (rd : RegIdx) (v : IU) (s t : State) : Prop :=
  t.reg rd = v ∧ t.pc = s.pc + 1 ∧ t.status = s.status ∧ SameRegsBut rd s t ∧ SameMem s t ∧ SamePort s t ∧ SameRun s t

/-- R236: the CORE state but for the status is as before, and the status is a fault of this reason; the port history and
the responses are not spoken of. -/
def FaultsWith (r : FaultReason) (s t : State) : Prop :=
  t.status = .faulted r ∧ t.regs = s.regs ∧ SameFlags s t ∧ t.mem = s.mem ∧ t.pc = s.pc ∧ SameRun s t

/-- R209, R210: what a query instruction `i` does with the triplets `ts` it is answered, its request being the event `e`,
its results going to the cells from `q` and their count to `rd`. -/
def DeliversTriplets (i : Instr) (rd : RegIdx) (q : Nat) (ts : List Triplet) (e : PortEvent) (s : State) : Prop :=
  (4095 < ts.length →
    ∃ t, exec i s = .next t ∧ FaultsWith (.storeFault (.responseTooLong ts.length)) s t
      ∧ t.history = s.history ++ [e]) ∧
  (ts.length ≤ 4095 → 0 < ts.length → s.memCap < q + 3 * ts.length →
    ∃ t, exec i s = .next t ∧ FaultsWith (.addressFault (q + 3 * ts.length - 1)) s t
      ∧ t.history = s.history ++ [e]) ∧
  (ts.length ≤ 4095 → (ts.length = 0 ∨ q + 3 * ts.length ≤ s.memCap) →
    ∃ t, exec i s = .next t
      ∧ t.reg rd = BitVec.ofNat 12 ts.length
      ∧ (∀ j (h : j < ts.length), t.cell (q + 3 * j) = ts[j].subject ∧ t.cell (q + 3 * j + 1) = ts[j].relation
          ∧ t.cell (q + 3 * j + 2) = ts[j].object)
      ∧ SameMemOutside q (3 * ts.length) s t
      ∧ SameRegsBut rd s t ∧ SameFlags s t ∧ t.pc = s.pc + 1 ∧ t.status = s.status ∧ SameRun s t
      ∧ t.history = s.history ++ [e] ∧ t.unfoldAnswers = s.unfoldAnswers
      ∧ t.queryAnswers = s.queryAnswers.tail)

end Sys2Proof.Machine
end

