-- ==== Sys2Proof/Certificates/Slice0/Obligations.lean ====
section
/-! DEFINITION. The statements for the provers, from the numbered rules of spec/. -/

open Sys2Proof Sys2Proof.Machine

/-! ### Encoding (spec/30_encoding.md) -/

/-- R71 to R73: the word of a well-formed instruction decodes to that instruction, whatever its operands. -/
def Obligations.DecodeOfEncodeIsTheInstruction : Prop :=
  ∀ i : Instr, i.wf = true → decode (encode i) = .ok i

/-- R76: a word is an instruction, whose word it then is, or has an illegal opcode, or is a fault of the later checks. -/
def Obligations.EveryWordIsAnInstructionOrOneDecodeFault : Prop :=
  ∀ w : Word36,
    (∃ i : Instr, decode w = .ok i ∧ i.wf = true ∧ encode i = w ∧ (opField w).toNat < 0x17)
    ∨ (decode w = .error (.illegalOpcode (opField w)) ∧ 0x17 ≤ (opField w).toNat)
    ∨ ((decode w = .error .malformedOperand ∨ ∃ r, decode w = .error (.badRegister r)) ∧ (opField w).toNat < 0x17)

/-- R77, R78: the words that the spec lists decode to the instructions it lists and are their encodings, and the source texts
beside them assemble to them. -/
def Obligations.ListedWordsAreTheListedInstructions : Prop :=
  ∀ p ∈ ([("ADD r0,r0,r1", 0x080000001, .add 0 (.reg 0) (.reg 1)), ("ADD r0, r0, r1", 0x080000001, .add 0 (.reg 0) (.reg 1)),
      ("JumpIf Carry->4", 0x840000004, .jumpif .c 4), ("JUMPIF C, 4", 0x840000004, .jumpif .c 4),
      ("Store r0,[addr=0]", 0x704000000, .store 0 (.abs 0)), ("STORE r0, [0]", 0x704000000, .store 0 (.abs 0)),
      ("Halt", 0x000000000, .halt), ("HALT", 0x000000000, .halt),
      ("SUB r2, r2, #1", 0x112002001, .sub 2 (.reg 2) (.imm 1)),
      ("ADD r3, #4095, #1", 0x09EFFF001, .add 3 (.imm 4095) (.imm 1)), ("NOT r1, r2", 0x308002000, .not 1 (.reg 2)),
      ("LOADK r1, #256", 0x58C100000, .loadk 1 256), ("MOV r3, r0", 0x618000000, .mov 3 0),
      ("LOAD r3, [r1]", 0x698001000, .load 3 (.ind 1)), ("LOAD r0, [0x000010]", 0x684000010, .load 0 (.abs 0x10)),
      ("JUMP 0", 0x780000000, .jump 0), ("JUMPIF NZ, 3", 0x820000003, .jumpif .nz 3),
      ("APPLY r2, #7", 0x890007000, .apply 2 7), ("ENFOLD r0, [r1], r2", 0x900001002, .enfold 0 1 2),
      ("DRSQE r0, [r1], [r2], #0b101", 0xA85001002, .drsqe 0 1 2 0b101)] : List (String × Word36 × Instr)),
    decode p.2.1 = .ok p.2.2 ∧ encode p.2.2 = p.2.1 ∧ assembleProgram p.1.toList = some [p.2.1]

/-- R74: exactly the opcodes 0x17 to 0x1F are illegal, the fault names the opcode, and it ends the run. -/
def Obligations.IllegalOpcodesAreReportedByNumber : Prop :=
  ∀ (w : Word36) (op : BitVec 5),
    (decode w = .error (.illegalOpcode op) ↔ w.extractLsb' 31 5 = op ∧ 0x17 ≤ op.toNat)
    ∧ (∀ s : State, w.extractLsb' 31 5 = op → 0x17 ≤ op.toNat →
        s.status = .running → s.prog[s.pc.toNat]? = some w → s.steps < s.maxSteps →
        step s = .next { s with
          tick := s.tick + 1, steps := s.steps + 1, status := .faulted (.decodeFault (.illegalOpcode op)) })

/-- R63, R65, R75 steps 2 to 5: for each opcode, exactly the words that break its format, its forms or its mask are
malformed, bit by bit as the table of R63 has them. -/
def Obligations.MalformedWordsAreThoseThatBreakTheirFormat : Prop :=
  ∀ w : Word36,
    let op := (w.extractLsb' 31 5).toNat
    let a := (w.extractLsb' 12 12).toNat
    let b := (w.extractLsb' 0 12).toNat
    let malformed := decode w = .error .malformedOperand
    (op = 0 → (malformed ↔ w.extractLsb' 0 31 ≠ 0))
    ∧ (op ∈ [1, 2, 3, 4, 5, 7, 8, 9, 10] →
        (malformed ↔ w.getLsbD 24 = true ∨ (w.getLsbD 26 = false ∧ 16 ≤ a) ∨ (w.getLsbD 25 = false ∧ 16 ≤ b)))
    ∧ (op = 6 →
        (malformed ↔ w.getLsbD 25 = true ∨ w.getLsbD 24 = true ∨ b ≠ 0 ∨ (w.getLsbD 26 = false ∧ 16 ≤ a)))
    ∧ (op = 11 → (malformed ↔ w.getLsbD 25 = true ∨ w.getLsbD 24 = true ∨ b ≠ 0 ∨ w.getLsbD 26 = false))
    ∧ (op = 12 →
        (malformed ↔ w.getLsbD 25 = true ∨ w.getLsbD 24 = true ∨ b ≠ 0 ∨ w.getLsbD 26 = true ∨ 16 ≤ a))
    ∧ (op ∈ [13, 14] →
        (malformed ↔ w.getLsbD 25 = true ∨ w.getLsbD 24 = true ∨ (w.getLsbD 26 = false ∧ (b ≠ 0 ∨ 16 ≤ a))))
    ∧ (op = 15 → (malformed ↔ w.extractLsb' 24 7 ≠ 0))
    ∧ (op = 16 → (malformed ↔ w.extractLsb' 24 5 ≠ 0))
    ∧ (op = 17 → (malformed ↔ w.extractLsb' 24 3 ≠ 0 ∨ b ≠ 0))
    ∧ (op ∈ [18, 19, 20] → (malformed ↔ w.extractLsb' 24 3 ≠ 0 ∨ 16 ≤ a ∨ 16 ≤ b))
    ∧ (op = 21 → (malformed ↔ 16 ≤ a ∨ 16 ≤ b))
    ∧ (op = 22 → (malformed ↔ 16 ≤ a ∨ 16 ≤ b ∨ w.extractLsb' 24 3 = 0))

/-- R75 step 6, with the fields that hold a register index under the opcode and its form bits (R63 to R65): a word is a bad
register exactly when no earlier check fails and one of those fields is 4 or more, and the index reported is that of the first
such field of the header, field A and field B. -/
def Obligations.FirstBadRegisterFieldIsReported : Prop :=
  ∀ (w : Word36) (r : RegIdx),
    let op := (w.extractLsb' 31 5).toNat
    let header := w.extractLsb' 27 4
    let a := w.extractLsb' 12 4
    let b := w.extractLsb' 0 4
    let usesHeader := op ∈ [1, 2, 3, 4, 5, 6, 7, 8, 9, 10, 11, 12, 13, 14, 17, 18, 19, 20, 21, 22]
    let usesA := (op ∈ [1, 2, 3, 4, 5, 6, 7, 8, 9, 10, 12, 13, 14] ∧ w.getLsbD 26 = false)
      ∨ op ∈ [18, 19, 20, 21, 22]
    let usesB := (op ∈ [1, 2, 3, 4, 5, 7, 8, 9, 10] ∧ w.getLsbD 25 = false) ∨ op ∈ [18, 19, 20, 21, 22]
    decode w = .error (.badRegister r) ↔
      decode w ≠ .error .malformedOperand ∧ usesHeader ∧ 4 ≤ r.toNat
      ∧ (r = header
        ∨ (header.toNat < 4 ∧ usesA ∧ r = a)
        ∨ (header.toNat < 4 ∧ (usesA → a.toNat < 4) ∧ usesB ∧ r = b))

/-- R265: the byte image of a program: index 0 first, five bytes a word, most significant first, top nibble 0; what is no
image is refused before the run. That it is refused as such, whatever the start state and the limit are, rests on the order of
the refusals, which is the model's choice (log 15). -/
def Obligations.ProgramImageIsFiveBigEndianBytesAWord : Prop :=
  (∀ prog : List Word36, programOfImage (imageOfProgram prog) = some prog)
  ∧ (∀ (w : Word36) (prog : List Word36), imageOfProgram (w :: prog) = imageOfProgram [w] ++ imageOfProgram prog)
  ∧ (∀ w : Word36, (imageOfProgram [w]).length = 5
      ∧ (imageOfProgram [w]).foldl (fun n byte => n * 256 + byte.toNat) 0 = w.toNat)
  ∧ (∀ image : List (BitVec 8), (programOfImage image).isSome = true ↔
      image.length % 5 = 0 ∧ ∀ k (h : 5 * k < image.length), image[5 * k].toNat < 16)
  ∧ (∀ (image : List (BitVec 8)) (s : State) (n : Int),
      programOfImage image = none → startRunFromImage image s n = .refused .badImage)

/-- R80: the pseudo-instructions expand as the table says and have the effects it lists. -/
def Obligations.PseudoInstructionsHaveTheirListedEffects : Prop :=
  (∀ s : State, exec pseudoNop s = .next { s with pc := s.pc + 1 })
  ∧ pseudoNop = .mov 0 (0 : RegIdx)
  ∧ (∀ rd rs : RegIdx, pseudoClr rd = .loadk rd 0 ∧ pseudoTst rs = .or rs (.reg rs) (.imm 0)
      ∧ pseudoInc rd = .add rd (.reg rd) (.imm 1) ∧ pseudoDec rd = .sub rd (.reg rd) (.imm 1)
      ∧ pseudoNeg rd rs = .sub rd (.imm 0) (.reg rs))
  ∧ (∀ t, pseudoJz t = .jumpif .z t ∧ pseudoJnz t = .jumpif .nz t ∧ pseudoJc t = .jumpif .c t
      ∧ pseudoJnc t = .jumpif .nc t)
  ∧ (∀ (r : RegIdx) (s : State), r.toNat < 4 →
      (∃ t, exec (pseudoClr r) s = .next t ∧ t.reg r = 0 ∧ SameFlags s t)
      ∧ (∃ t, exec (pseudoTst r) s = .next t ∧ SameRegs s t ∧ t.z = decide (s.reg r = 0) ∧ t.c = false)
      ∧ (∃ t, exec (pseudoInc r) s = .next t ∧ t.reg r = s.reg r + 1)
      ∧ (∃ t, exec (pseudoDec r) s = .next t ∧ t.reg r = s.reg r - 1))
  ∧ (∀ (rd rs : RegIdx) (s : State), rd.toNat < 4 → rs.toNat < 4 →
      ∃ t, exec (pseudoNeg rd rs) s = .next t ∧ (t.reg rd).toNat = (4096 - (s.reg rs).toNat) % 4096)

/-! ### IU primitives (spec/40_alu.md section 1 and 4) -/

/-- R101, R122: the bitwise primitives, bit by bit, the complement as a difference, and the source's laws of them. -/
def Obligations.BitwisePrimitivesActBitByBit : Prop :=
  ∀ a b : IU,
    (∀ i, i < 12 →
      (iuAnd a b).getLsbD i = (a.getLsbD i && b.getLsbD i)
      ∧ (iuOr a b).getLsbD i = (a.getLsbD i || b.getLsbD i)
      ∧ (iuXor a b).getLsbD i = (a.getLsbD i != b.getLsbD i)
      ∧ (complement a).getLsbD i = !(a.getLsbD i))
    ∧ (complement a).toNat = 4095 - a.toNat
    ∧ complement (complement a) = a ∧ iuXor a a = 0 ∧ iuAnd a 0 = 0 ∧ iuOr a 4095 = 4095

/-- R102, R124: a rotation moves bit `(i - k) mod 12` to bit `i`, and rotations compose modulo 12. -/
def Obligations.RotationsMoveBitsAndComposeModulo12 : Prop :=
  ∀ (x : IU) (k k1 k2 : Nat),
    (∀ i, i < 12 → (rotl x k).getLsbD i = x.getLsbD ((i + 12 - k % 12) % 12))
    ∧ rotl (rotl x k1) k2 = rotl x ((k1 + k2) % 12)
    ∧ rotl x 0 = x ∧ rotl x 12 = x

/-- R103: the shifts are the arithmetic of unbounded numbers, the amount not reduced; an arithmetic shift by 11 or more
leaves copies of the sign bit. -/
def Obligations.ShiftsAreUnboundedArithmetic : Prop :=
  ∀ (a : IU) (k : Nat),
    (shl a k).toNat = a.toNat * 2 ^ k % 4096
    ∧ (shr a k).toNat = a.toNat / 2 ^ k
    ∧ sar a k = BitVec.ofInt 12 (a.toInt / 2 ^ k)
    ∧ (11 ≤ k → sar a k = if a.getLsbD 11 then 4095 else 0)

/-- R104, R106: the half-adder, the full-adder, the multiplexer and the demultiplexer. -/
def Obligations.AdderCellsAndSelectorsFollowTheirTables : Prop :=
  ∀ (a b c : IU) (sel : Bool),
    halfAdder a b = (a ^^^ b, a &&& b)
    ∧ (∀ i, i < 12 →
        2 * ((fullAdder a b c).2.getLsbD i).toNat + ((fullAdder a b c).1.getLsbD i).toNat
          = (a.getLsbD i).toNat + (b.getLsbD i).toNat + (c.getLsbD i).toNat)
    ∧ mux true a b = a ∧ mux false a b = b
    ∧ demux true a = (a, 0) ∧ demux false a = (0, a)
    ∧ (demux sel (mux sel a b) = if sel then (a, 0) else (0, b))

/-- R105, R123: the ripple-carry adder adds exactly, for every input. -/
def Obligations.RippleCarryAdderAddsExactly : Prop :=
  (∀ (a b : IU) (cin : Bool),
    a.toNat + b.toNat + cin.toNat = (rippleCarryAdd a b cin).1.toNat + 4096 * (rippleCarryAdd a b cin).2.toNat)
  ∧ (∀ a b : IU,
    (rippleCarryAdd a b false).1.toNat = (a.toNat + b.toNat) % 4096
    ∧ ((rippleCarryAdd a b false).2 = true ↔ 4096 ≤ a.toNat + b.toNat))

/-! ### The ALU instructions (spec/40_alu.md section 3) -/

/-- R110: ADD. -/
def Obligations.AddWritesTheSumAndItsFlags : Prop :=
  ∀ (rd : RegIdx) (a b : Operand) (s : State),
    let sum := (s.val a).toNat + (s.val b).toNat
    EncodedAs (.add rd a b) 0x01 .a2 ∧ DecodeFaultUnlessWf (.add rd a b) s
    ∧ ((Instr.add rd a b).wf = true → ∃ t, exec (.add rd a b) s = .next t
        ∧ CompletesWithReg rd (BitVec.ofNat 12 sum) s t
        ∧ t.z = decide (sum % 4096 = 0) ∧ t.c = decide (4096 ≤ sum))

/-- R111, R126: SUB, and that an addition undoes it. -/
def Obligations.SubWritesTheDifferenceAndNoBorrow : Prop :=
  (∀ (rd : RegIdx) (a b : Operand) (s : State),
    let va := (s.val a).toNat
    let vb := (s.val b).toNat
    EncodedAs (.sub rd a b) 0x02 .a2 ∧ DecodeFaultUnlessWf (.sub rd a b) s
    ∧ ((Instr.sub rd a b).wf = true → ∃ t, exec (.sub rd a b) s = .next t
        ∧ CompletesWithReg rd (BitVec.ofNat 12 (va + 4096 - vb)) s t
        ∧ t.z = decide (va = vb) ∧ t.c = decide (vb ≤ va)))
  ∧ (∀ a b : IU, (addResult (subResult a b).value b).value = a)

/-- R112 to R115: AND, OR, XOR and NOT clear the Carry flag. -/
def Obligations.LogicInstructionsWriteTheirResultAndClearCarry : Prop :=
  ∀ (rd : RegIdx) (a b : Operand) (s : State),
    let logic (i : Instr) (v : IU) := DecodeFaultUnlessWf i s
      ∧ (i.wf = true → ∃ t, exec i s = .next t ∧ CompletesWithReg rd v s t ∧ t.z = decide (v = 0) ∧ t.c = false)
    (EncodedAs (.and rd a b) 0x03 .a2 ∧ logic (.and rd a b) (s.val a &&& s.val b))
    ∧ (EncodedAs (.or rd a b) 0x04 .a2 ∧ logic (.or rd a b) (s.val a ||| s.val b))
    ∧ (EncodedAs (.xor rd a b) 0x05 .a2 ∧ logic (.xor rd a b) (s.val a ^^^ s.val b))
    ∧ (EncodedAs (.not rd a) 0x06 .a1 ∧ logic (.not rd a) (~~~(s.val a))
      ∧ (∀ w : Word36, opField w = 0x06 → w.getLsbD 25 = true ∨ w.extractLsb' 0 12 ≠ 0 →
          decode w = .error .malformedOperand))

/-- R116: SHL. -/
def Obligations.ShlWritesTheShiftAndTheLastBitOut : Prop :=
  ∀ (rd : RegIdx) (a b : Operand) (s : State),
    let va := s.val a
    let k := (s.val b).toNat
    EncodedAs (.shl rd a b) 0x07 .a2 ∧ DecodeFaultUnlessWf (.shl rd a b) s
    ∧ ((Instr.shl rd a b).wf = true → ∃ t, exec (.shl rd a b) s = .next t
        ∧ CompletesWithReg rd (BitVec.ofNat 12 (va.toNat * 2 ^ k)) s t
        ∧ t.z = decide (va.toNat * 2 ^ k % 4096 = 0)
        ∧ t.c = (decide (1 ≤ k ∧ k ≤ 12) && va.getLsbD (12 - k)))

/-- R117: SHR. -/
def Obligations.ShrWritesTheShiftAndTheLastBitOut : Prop :=
  ∀ (rd : RegIdx) (a b : Operand) (s : State),
    let va := s.val a
    let k := (s.val b).toNat
    EncodedAs (.shr rd a b) 0x08 .a2 ∧ DecodeFaultUnlessWf (.shr rd a b) s
    ∧ ((Instr.shr rd a b).wf = true → ∃ t, exec (.shr rd a b) s = .next t
        ∧ CompletesWithReg rd (BitVec.ofNat 12 (va.toNat / 2 ^ k)) s t
        ∧ t.z = decide (va.toNat / 2 ^ k = 0)
        ∧ t.c = (decide (1 ≤ k ∧ k ≤ 12) && va.getLsbD (k - 1)))

/-- R118: SAR. -/
def Obligations.SarWritesTheShiftAndTheLastBitOut : Prop :=
  ∀ (rd : RegIdx) (a b : Operand) (s : State),
    let va := s.val a
    let k := (s.val b).toNat
    EncodedAs (.sar rd a b) 0x09 .a2 ∧ DecodeFaultUnlessWf (.sar rd a b) s
    ∧ ((Instr.sar rd a b).wf = true → ∃ t, exec (.sar rd a b) s = .next t
        ∧ CompletesWithReg rd (BitVec.ofInt 12 (va.toInt / 2 ^ k)) s t
        ∧ t.z = decide (t.reg rd = 0)
        ∧ t.c = (decide (1 ≤ k) && va.getLsbD (min (k - 1) 11)))

/-- R119: ROL. -/
def Obligations.RolWritesTheRotationAndClearsCarry : Prop :=
  ∀ (rd : RegIdx) (a b : Operand) (s : State),
    let va := s.val a
    let k := (s.val b).toNat
    EncodedAs (.rol rd a b) 0x0A .a2 ∧ DecodeFaultUnlessWf (.rol rd a b) s
    ∧ ((Instr.rol rd a b).wf = true → ∃ t v, exec (.rol rd a b) s = .next t
        ∧ (∀ i, i < 12 → v.getLsbD i = va.getLsbD ((i + 12 - k % 12) % 12))
        ∧ CompletesWithReg rd v s t
        ∧ t.z = decide (v = 0) ∧ t.c = false)

/-- R120, R121: LOADK and MOV write their register and leave the flags. -/
def Obligations.LoadkAndMovCopyAndLeaveFlags : Prop :=
  ∀ (rd rs : RegIdx) (v : IU) (s : State),
    (EncodedAs (.loadk rd v) 0x0B .a1 ∧ DecodeFaultUnlessWf (.loadk rd v) s
      ∧ (∀ w : Word36, opField w = 0x0B → w.getLsbD 26 = false → decode w = .error .malformedOperand)
      ∧ ((Instr.loadk rd v).wf = true → ∃ t, exec (.loadk rd v) s = .next t ∧ CompletesWithReg rd v s t ∧ SameFlags s t))
    ∧ (EncodedAs (.mov rd rs) 0x0C .a1
      ∧ (∀ w : Word36, opField w = 0x0C → w.getLsbD 26 = true → decode w = .error .malformedOperand)
      ∧ ((Instr.mov rd rs).wf = false → ∃ r, (r = rd ∨ r = rs) ∧ 4 ≤ r.toNat
          ∧ exec (.mov rd rs) s = .next { s with status := .faulted (.decodeFault (.badRegister r)) })
      ∧ ((Instr.mov rd rs).wf = true → ∃ t, exec (.mov rd rs) s = .next t ∧ CompletesWithReg rd (s.reg rs) s t
          ∧ SameFlags s t))

/-- R125: the Zero flag agrees with the destination after every ALU-class instruction; LOADK and MOV leave both flags. -/
def Obligations.FlagsAgreeWithTheLastAluResult : Prop :=
  ∀ (i : Instr) (s t : State), i.wf = true → exec i s = .next t →
    (i.aluClass = true → ∃ rd, i.destination = some rd ∧ t.z = decide (t.reg rd = 0))
    ∧ ((∃ rd v, i = .loadk rd v) ∨ (∃ rd rs, i = .mov rd rs) → SameFlags s t)

/-! ### Whole-machine rules over the instructions -/

/-- R25: only an ALU-class instruction changes a flag, and none that faults does. -/
def Obligations.OnlyAluClassInstructionsChangeFlags : Prop :=
  ∀ (i : Instr) (s t : State), exec i s = .next t → i.aluClass = false ∨ i.wf = false → SameFlags s t

/-- R21: an instruction writes no register but its destination, and none if it has no destination. -/
def Obligations.NoInstructionWritesASecondRegister : Prop :=
  ∀ (i : Instr) (s t : State), exec i s = .next t → ∀ r, i.destination ≠ some r → t.reg r = s.reg r

/-- R57: only STORE, UNFOLD, DRSQE and DRSQB change memory. -/
def Obligations.OnlyFourInstructionsWriteMemory : Prop :=
  ∀ (i : Instr) (s t : State), exec i s = .next t → i.writesMemory = false → t.mem = s.mem

/-- R56, R202: an instruction issues at most one port request, at the end of the history, and only a collaborator
instruction other than APPLY issues one. -/
def Obligations.AnInstructionIssuesAtMostOnePortRequest : Prop :=
  ∀ (i : Instr) (s t : State), exec i s = .next t →
    t.history = s.history ∨ (i.usesPort = true ∧ ∃ e, t.history = s.history ++ [e])

/-- R39: an instruction whose response is no draw does not depend on what the environment has lined up nor on which stores
it has connected. -/
def Obligations.OnlyDrawingInstructionsDependOnTheEnvironment : Prop :=
  ∀ (i : Instr) (s : State) (u : List UnfoldResponse) (q : List (List Triplet)) (h1 h2 : StoreHandle),
    i.draws = false → ∃ t, exec i s = .next t
      ∧ exec i { s with unfoldAnswers := u, queryAnswers := q, contentStore := h1, drsStore := h2 }
        = .next { t with unfoldAnswers := u, queryAnswers := q, contentStore := h1, drsStore := h2 }

/-- R22: an instruction that names an invalid register takes the DecodeFault of one it names, and changes nothing else. -/
def Obligations.InvalidRegisterIsAFatalDecodeFault : Prop :=
  ∀ (i : Instr) (s : State), i.emptySignature = false → (∃ r ∈ i.regs, 4 ≤ r.toNat) →
    ∃ r ∈ i.regs, 4 ≤ r.toNat ∧ exec i s = .next { s with status := .faulted (.decodeFault (.badRegister r)) }

/-! ### Loads and stores (spec/41_load_store.md, spec/20_memory.md) -/

/-- R42, R150: the two addressing modes. -/
def Obligations.AddressesAreLiteralOrRegisterValues : Prop :=
  ∀ (s : State), (∀ a : Addr24, s.address (.abs a) = a.toNat)
    ∧ (∀ ra : RegIdx, s.address (.ind ra) = (s.reg ra).toNat ∧ s.address (.ind ra) < 4096)

/-- R152: LOAD. -/
def Obligations.LoadMovesACellOrFaults : Prop :=
  ∀ (rd : RegIdx) (addr : Addr) (s : State),
    EncodedAs (.load rd addr) 0x0D .m ∧ DecodeFaultUnlessWf (.load rd addr) s
    ∧ ((Instr.load rd addr).wf = true →
        (s.memCap ≤ s.address addr →
          exec (.load rd addr) s = .next { s with status := .faulted (.addressFault (s.address addr)) })
        ∧ (s.address addr < s.memCap → ∃ t, exec (.load rd addr) s = .next t
            ∧ CompletesWithReg rd (s.cell (s.address addr)) s t ∧ SameFlags s t))

/-- R153: STORE. -/
def Obligations.StoreMovesARegisterOrFaults : Prop :=
  ∀ (rs : RegIdx) (addr : Addr) (s : State),
    EncodedAs (.store rs addr) 0x0E .m ∧ DecodeFaultUnlessWf (.store rs addr) s
    ∧ ((Instr.store rs addr).wf = true → s.mem.wf = true →
        (s.memCap ≤ s.address addr →
          exec (.store rs addr) s = .next { s with status := .faulted (.addressFault (s.address addr)) })
        ∧ (s.address addr < s.memCap → ∃ t, exec (.store rs addr) s = .next t
            ∧ t.cell (s.address addr) = s.reg rs
            ∧ SameMemOutside (s.address addr) 1 s t
            ∧ SameRegs s t ∧ SameFlags s t ∧ t.pc = s.pc + 1 ∧ t.status = s.status ∧ SamePort s t ∧ SameRun s t))

/-- R51, R267: a LOAD of the cell that a STORE has just written reads the value stored, whichever of the two addressing modes
names the cell in each. -/
def Obligations.AStoreIsSeenByTheNextLoad : Prop :=
  ∀ (rs rd : RegIdx) (a1 a2 : Addr) (s : State),
    (Instr.store rs a1).wf = true → (Instr.load rd a2).wf = true → s.mem.wf = true →
    s.address a1 < s.memCap → s.address a2 = s.address a1 →
    ∃ t u, exec (.store rs a1) s = .next t ∧ exec (.load rd a2) t = .next u
      ∧ u.reg rd = s.reg rs ∧ SameMem t u ∧ u.status = s.status

/-! ### Control (spec/42_control.md section 3) -/

/-- R179, R181: JUMP. -/
def Obligations.JumpGoesToAValidTargetOrFaults : Prop :=
  ∀ (t : Index) (s : State),
    EncodedAs (.jump t) 0x0F .j
    ∧ (∀ w : Word36, opField w = 0x0F → w.extractLsb' 24 7 ≠ 0 → decode w = .error .malformedOperand)
    ∧ (s.prog.length ≤ t.toNat → exec (.jump t) s = .next { s with status := .faulted (.controlFault t) })
    ∧ (t.toNat < s.prog.length → exec (.jump t) s = .next { s with pc := t })

/-- R67, R182: JUMPIF, which checks its target only when it is taken. -/
def Obligations.JumpifGoesToItsTargetOnlyWhenItsConditionHolds : Prop :=
  ∀ (cond : Cond) (t : Index) (s : State),
    let taken := match cond with
      | .z => s.z = true
      | .nz => s.z = false
      | .c => s.c = true
      | .nc => s.c = false
    EncodedAs (.jumpif cond t) 0x10 .jc
    ∧ (encode (.jumpif cond t)).extractLsb' 29 2
        = (match cond with | .z => 0#2 | .nz => 1#2 | .c => 2#2 | .nc => 3#2)
    ∧ (∀ w : Word36, opField w = 0x10 → w.extractLsb' 24 5 ≠ 0 → decode w = .error .malformedOperand)
    ∧ (taken → s.prog.length ≤ t.toNat →
        exec (.jumpif cond t) s = .next { s with status := .faulted (.controlFault t) })
    ∧ (taken → t.toNat < s.prog.length → exec (.jumpif cond t) s = .next { s with pc := t })
    ∧ (¬ taken → exec (.jumpif cond t) s = .next { s with pc := s.pc + 1 })

/-- R183: HALT, whose only word is 0, and which counts as an executed instruction. -/
def Obligations.HaltEndsTheRunWhereItStands : Prop :=
  encode .halt = 0 ∧ EncodedAs .halt 0x00 .n
  ∧ (∀ w : Word36, opField w = 0x00 → w ≠ 0 → decode w = .error .malformedOperand)
  ∧ (∀ s : State, exec .halt s = .next { s with status := .halted })
  ∧ (∀ s : State, s.status = .running → s.prog[s.pc.toNat]? = some 0 →
      (s.maxSteps ≤ s.steps → step s = .next { s with status := .faulted .resourceExhausted })
      ∧ (s.steps < s.maxSteps →
          step s = .next { s with status := .halted, tick := s.tick + 1, steps := s.steps + 1 }))

/-! ### The collaborator instructions (spec/43_collaborator.md) -/

/-- R205: APPLY, for every function that the dynamics module may be. -/
def Obligations.ApplyRewritesItsRegisterByTheRule : Prop :=
  ∀ (rd : RegIdx) (rule : RuleId) (s : State),
    EncodedAs (.apply rd rule) 0x11 .k ∧ (encode (.apply rd rule)).extractLsb' 12 12 = rule
    ∧ (encode (.apply rd rule)).extractLsb' 0 12 = 0
    ∧ DecodeFaultUnlessWf (.apply rd rule) s
    ∧ ((Instr.apply rd rule).wf = true → ∃ t, exec (.apply rd rule) s = .next t
        ∧ CompletesWithReg rd (Config.applyFn rule (s.reg rd)) s t ∧ SameFlags s t)

/-- R206: ENFOLD. -/
def Obligations.EnfoldDigestsTheCellsOrFaults : Prop :=
  ∀ (rd ra rn : RegIdx) (s : State),
    let b := (s.reg ra).toNat
    let n := (s.reg rn).toNat
    EncodedAs (.enfold rd ra rn) 0x12 .c3 ∧ DecodeFaultUnlessWf (.enfold rd ra rn) s
    ∧ ((Instr.enfold rd ra rn).wf = true →
        (0 < n → s.memCap < b + n →
          exec (.enfold rd ra rn) s = .next { s with status := .faulted (.addressFault (b + n - 1)) })
        ∧ (n = 0 ∨ b + n ≤ s.memCap → ∃ t seq, exec (.enfold rd ra rn) s = .next t
            ∧ seq.length = n ∧ (∀ k (h : k < seq.length), seq[k] = s.cell (b + k))
            ∧ t.reg rd = Config.enfoldFn seq
            ∧ t.history = s.history ++ [.enfold seq (Config.enfoldFn seq)]
            ∧ SameRegsBut rd s t ∧ SameFlags s t ∧ SameMem s t ∧ t.pc = s.pc + 1 ∧ t.status = s.status ∧ SameRun s t
            ∧ t.unfoldAnswers = s.unfoldAnswers ∧ t.queryAnswers = s.queryAnswers))

/-- R207: UNFOLD, for every answer of the Content Store. That an answer is used up, and that the request stands in the history
also where it ends in a fault, are the model's own (log 6, log 13). -/
def Obligations.UnfoldWritesTheSequenceOrFaults : Prop :=
  ∀ (rd ra rs : RegIdx) (s : State),
    let d := s.reg rs
    let b := (s.reg ra).toNat
    EncodedAs (.unfold rd ra rs) 0x13 .c3 ∧ DecodeFaultUnlessWf (.unfold rd ra rs) s
    ∧ ((Instr.unfold rd ra rs).wf = true → s.mem.wf = true →
        (s.unfoldAnswer d = .notFound → ∃ t, exec (.unfold rd ra rs) s = .next t
            ∧ FaultsWith (.storeFault (.notFound d)) s t ∧ t.history = s.history ++ [.unfold d .notFound])
        ∧ (∀ seq, s.unfoldAnswer d = .sequence seq →
            (4095 < seq.length → ∃ t, exec (.unfold rd ra rs) s = .next t
              ∧ FaultsWith (.storeFault (.responseTooLong seq.length)) s t
              ∧ t.history = s.history ++ [.unfold d (.sequence seq)])
            ∧ (seq.length ≤ 4095 → 0 < seq.length → s.memCap < b + seq.length →
              ∃ t, exec (.unfold rd ra rs) s = .next t
              ∧ FaultsWith (.addressFault (b + seq.length - 1)) s t
              ∧ t.history = s.history ++ [.unfold d (.sequence seq)])
            ∧ (seq.length ≤ 4095 → (seq.length = 0 ∨ b + seq.length ≤ s.memCap) →
              ∃ t, exec (.unfold rd ra rs) s = .next t
              ∧ t.reg rd = BitVec.ofNat 12 seq.length
              ∧ (∀ k (h : k < seq.length), t.cell (b + k) = seq[k])
              ∧ SameMemOutside b seq.length s t
              ∧ SameRegsBut rd s t ∧ SameFlags s t ∧ t.pc = s.pc + 1 ∧ t.status = s.status ∧ SameRun s t
              ∧ t.history = s.history ++ [.unfold d (.sequence seq)]
              ∧ t.unfoldAnswers = s.unfoldAnswers.tail ∧ t.queryAnswers = s.queryAnswers)))

/-- R208: DRSINS. -/
def Obligations.DrsinsSendsTheFactAndChangesNothingElse : Prop :=
  ∀ (rs rr ro : RegIdx) (s : State),
    EncodedAs (.drsins rs rr ro) 0x14 .c3 ∧ DecodeFaultUnlessWf (.drsins rs rr ro) s
    ∧ ((Instr.drsins rs rr ro).wf = true →
        exec (.drsins rs rr ro) s = .next { s with
          history := s.history ++ [.insert ⟨s.reg rs, s.reg rr, s.reg ro⟩]
          pc := s.pc + 1 })

/-- R209: DRSQE, for every set of triplets the DRS Store may answer. That an answer is used up, that it lists no triplet twice,
and that the request stands in the history also where it ends in a fault, are the model's own (log 6, log 7, log 13). -/
def Obligations.DrsqeDeliversTheMatchesOrFaults : Prop :=
  ∀ (rd ra rb : RegIdx) (mask : Mask3) (s : State),
    let p := (s.reg ra).toNat
    let q := (s.reg rb).toNat
    let pat : Pattern IU :=
      ⟨if mask.getLsbD 2 then some (s.cell p) else none,
       if mask.getLsbD 1 then some (s.cell (p + 1)) else none,
       if mask.getLsbD 0 then some (s.cell (p + 2)) else none⟩
    let ts := s.exactAnswer mask pat
    EncodedAs (.drsqe rd ra rb mask) 0x15 .q ∧ DecodeFaultUnlessWf (.drsqe rd ra rb mask) s
    ∧ ((Instr.drsqe rd ra rb mask).wf = true → s.mem.wf = true →
        (s.memCap < p + 3 →
          exec (.drsqe rd ra rb mask) s = .next { s with status := .faulted (.addressFault (p + 2)) })
        ∧ (p + 3 ≤ s.memCap →
            ts.Nodup ∧ DeliversTriplets (.drsqe rd ra rb mask) rd q ts (.queryExact mask pat ts) s))

/-- R210: DRSQB, for every set of triplets the DRS Store may answer and every basin function; a mask of 0 is malformed.
That an answer is used up, that it lists no triplet twice, and that the request stands in the history also where it ends in a
fault, are the model's own (log 6, log 7, log 13). -/
def Obligations.DrsqbDeliversTheMatchesOrFaults : Prop :=
  ∀ (rd ra rb : RegIdx) (mask : Mask3) (s : State),
    let p := (s.reg ra).toNat
    let q := (s.reg rb).toNat
    let sig : Pattern BasinId :=
      ⟨if mask.getLsbD 2 then some (Config.basinFn (s.cell p)) else none,
       if mask.getLsbD 1 then some (Config.basinFn (s.cell (p + 1))) else none,
       if mask.getLsbD 0 then some (Config.basinFn (s.cell (p + 2))) else none⟩
    let ts := s.basinAnswer mask sig
    EncodedAs (.drsqb rd ra rb mask) 0x16 .q ∧ DecodeFaultUnlessWf (.drsqb rd ra rb mask) s
    ∧ (mask = 0 → exec (.drsqb rd ra rb mask) s = .next { s with status := .faulted (.decodeFault .malformedOperand) })
    ∧ ((Instr.drsqb rd ra rb mask).wf = true → s.mem.wf = true →
        (s.memCap < p + 3 →
          exec (.drsqb rd ra rb mask) s = .next { s with status := .faulted (.addressFault (p + 2)) })
        ∧ (p + 3 ≤ s.memCap →
            ts.Nodup ∧ DeliversTriplets (.drsqb rd ra rb mask) rd q ts (.queryByBasin mask sig ts) s))

/-- R202, with the model's own conventions: where a response is lined up (log 6), a query of either kind answers the set of
the triplets it lists, and the list itself where it repeats none (log 7); an unfold answers the response itself. -/
def Obligations.QueryAnswersAreSetsOfTheTripletsListed : Prop :=
  (∀ ts : List Triplet,
    (distinct ts).Nodup ∧ (∀ t, t ∈ distinct ts ↔ t ∈ ts) ∧ (ts.Nodup → distinct ts = ts))
  ∧ (∀ (s : State) (ts : List Triplet) (rest : List (List Triplet)) (mask : Mask3) (pat : Pattern IU) (sig : Pattern BasinId),
    s.queryAnswers = ts :: rest →
      ((s.exactAnswer mask pat).Nodup ∧ (∀ t, t ∈ s.exactAnswer mask pat ↔ t ∈ ts)
        ∧ (ts.Nodup → s.exactAnswer mask pat = ts))
      ∧ ((s.basinAnswer mask sig).Nodup ∧ (∀ t, t ∈ s.basinAnswer mask sig ↔ t ∈ ts)
        ∧ (ts.Nodup → s.basinAnswer mask sig = ts)))
  ∧ (∀ (s : State) (r : UnfoldResponse) (rest : List UnfoldResponse) (d : IU),
    s.unfoldAnswers = r :: rest → s.unfoldAnswer d = r)

/-! ### The engine (spec/42_control.md section 1) -/

/-- R171: a step of a running machine below its limit runs the instruction that the word at the program counter decodes to,
with the counters advanced first. -/
def Obligations.StepRunsTheDecodedInstruction : Prop :=
  ∀ (s : State) (w : Word36) (i : Instr),
    s.status = .running → s.prog[s.pc.toNat]? = some w → s.steps < s.maxSteps → decode w = .ok i →
      step s = exec i { s with tick := s.tick + 1, steps := s.steps + 1 }

/-- R71, R231: a word that does not decode faults at its own index, counted as executed. -/
def Obligations.StepFaultsOnAWordThatDoesNotDecode : Prop :=
  ∀ (s : State) (w : Word36) (k : DecodeFault),
    s.status = .running → s.prog[s.pc.toNat]? = some w → s.steps < s.maxSteps → decode w = .error k →
      step s = .next { s with tick := s.tick + 1, steps := s.steps + 1, status := .faulted (.decodeFault k) }

/-- R172: past the end of the program a running machine halts, whatever its step limit, and changes nothing else. -/
def Obligations.ThePastOfTheProgramHaltsImplicitly : Prop :=
  ∀ s : State, s.status = .running → s.prog.length ≤ s.pc.toNat → step s = .next { s with status := .halted }

/-- R174, R234: at the step limit the instruction is not executed and nothing is counted. -/
def Obligations.TheStepLimitStopsBeforeTheInstruction : Prop :=
  ∀ s : State, s.status = .running → s.pc.toNat < s.prog.length → s.maxSteps ≤ s.steps →
    step s = .next { s with status := .faulted .resourceExhausted }

/-- R32, R249 (the stutter is the model's reading, log 8): no step leaves a terminal status. -/
def Obligations.NoStepLeavesATerminalStatus : Prop :=
  ∀ s : State, s.status ≠ .running → step s = .next s

/-- R174, R31: a step of a running machine counts exactly the instructions that are fetched below the limit. -/
def Obligations.TickAndStepsCountExecutedInstructions : Prop :=
  ∀ s t : State, s.status = .running → step s = .next t →
    (s.pc.toNat < s.prog.length ∧ s.steps < s.maxSteps → t.tick = s.tick + 1 ∧ t.steps = s.steps + 1)
    ∧ (s.prog.length ≤ s.pc.toNat ∨ s.maxSteps ≤ s.steps → t.tick = s.tick ∧ t.steps = s.steps)

/-- R236: a fault changes the status alone, but for the counters of an instruction that passed the limit, and for the port
(R34): that the request whose answer was the fault's cause stands in the history, its response used up, is the model's own
reading (log 13, DEDUCED), and the statement leaves the port free. -/
def Obligations.AFaultChangesTheStatusAlone : Prop :=
  ∀ (s t : State) (r : FaultReason), s.status = .running → step s = .next t → t.status = .faulted r →
    t = { s with
      status := .faulted r, tick := t.tick, steps := t.steps
      history := t.history, unfoldAnswers := t.unfoldAnswers, queryAnswers := t.queryAnswers }
    ∧ (r = .resourceExhausted → t.tick = s.tick ∧ t.steps = s.steps)
    ∧ (r ≠ .resourceExhausted → t.tick = s.tick + 1 ∧ t.steps = s.steps + 1)

/-- R28, R29: the program counter goes to the next index or to a valid target, without wrapping, and stays where it is when
the run ends. -/
def Obligations.TheProgramCounterNeverLeavesTheProgram : Prop :=
  ∀ s t : State, s.wf = true → s.status = .running → step s = .next t →
    (t.status = .running → (t.pc.toNat = s.pc.toNat + 1 ∨ t.pc.toNat < s.prog.length) ∧ t.pc.toNat ≤ s.prog.length)
    ∧ (t.status ≠ .running → t.pc = s.pc)

/-- R36, R54: no step changes the program store, the limit, the memory capacity or the store handles. -/
def Obligations.NoStepChangesTheConfiguration : Prop :=
  ∀ s t : State, step s = .next t →
    t.prog = s.prog ∧ t.maxSteps = s.maxSteps ∧ t.memCap = s.memCap
      ∧ t.contentStore = s.contentStore ∧ t.drsStore = s.drsStore

/-- The convention of `withFetchWord` (log 4): the next step runs exactly the instruction placed. -/
def Obligations.APlacedWordIsTheNextInstructionRun : Prop :=
  ∀ (s : State) (w : Nat) (i : Instr), w < 2 ^ 36 → decode (BitVec.ofNat 36 w) = .ok i →
    step (s.withFetchWord 40 w) = exec i (s.withFetchWord 40 w).count
      ∧ (s.withFetchWord 40 w).pc = s.pc ∧ (s.withFetchWord 40 w).regs = s.regs ∧ (s.withFetchWord 40 w).mem = s.mem

/-! ### Reset and runs (spec/10_state.md section 7, spec/70_reset_and_hazards.md) -/

/-- R37, R260: every component of the state is zero at reset, and the machine is running. -/
def Obligations.ResetZeroesTheMachine : Prop :=
  (∀ r, State.reset.reg r = 0) ∧ (∀ a, State.reset.cell a = 0) ∧ State.reset.z = false ∧ State.reset.c = false
    ∧ State.reset.tick = 0 ∧ State.reset.pc = 0 ∧ State.reset.status = .running ∧ State.reset.steps = 0

/-- The reset state is within its ranges, and its status records no fault. -/
def Obligations.ResetIsAGoodState : Prop :=
  State.reset.wf = true ∧ State.reset.faultTruthful

/-- R7, R8, R30: every step keeps a state within its ranges: memory canonical and below `MEM_CAP`. -/
def Obligations.EveryStepKeepsTheStateInRange : Prop :=
  ∀ s t : State, s.wf = true → step s = .next t → t.wf = true

/-- R230 to R235: every step keeps the recorded fault reason true of the state. That a NotFound answer stands in the port
history (R34, R202) of the state that faulted on it is the model's own reading (log 13, DEDUCED). -/
def Obligations.EveryStepKeepsFaultReasonsTruthful : Prop :=
  ∀ s t : State, s.faultTruthful → step s = .next t → t.faultTruthful

/-- R8, R170, R262 and the decision D38: how a run starts, and what the host refuses. -/
def Obligations.ARunStartsRunningOrIsRefused : Prop :=
  ∀ (prog : List Word36) (s0 : State) (n : Int),
    (16777215 < prog.length → startRun prog s0 n = .refused (.programTooLong prog.length))
    ∧ (prog.length ≤ 16777215 → n < 0 → startRun prog s0 n = .refused .negativeStepLimit)
    ∧ (prog.length ≤ 16777215 → 0 ≤ n → s0.memoryInRange = false → startRun prog s0 n = .refused .startStateOutOfRange)
    ∧ (prog.length ≤ 16777215 → 0 ≤ n → s0.memoryInRange = true → ∃ s, startRun prog s0 n = .next s
        ∧ s.status = .running ∧ s.steps = 0 ∧ s.prog = prog ∧ s.maxSteps = n.toNat ∧ s.history = []
        ∧ s.regs = s0.regs ∧ SameFlags s0 s ∧ s.mem = s0.mem ∧ s.pc = s0.pc ∧ s.tick = s0.tick ∧ s.memCap = s0.memCap)

/-- R177, R174: every run that starts ends within `MAX_STEPS + 1` steps, in a good state, having executed at most
`MAX_STEPS` instructions, each of them counted by the tick; `run_scenario` reports that state and its status. -/
def Obligations.EveryRunEndsWithinItsStepLimit : Prop :=
  ∀ (prog : List Word36) (s0 s : State) (n : Int), startRun prog s0 n = .next s →
    ∃ t, runToEnd prog s0 n = .next t ∧ runScenario prog s0 n = .next t.reported ∧ t.status.ended = true ∧ t.steps ≤ n.toNat ∧ t.tick = s0.tick + t.steps
      ∧ t.wf = true

/-- R248: a run with `MAX_STEPS = k` shows the state after exactly `k` instructions of a run with a larger limit. -/
def Obligations.AStepLimitObservesTheStateAfterItsInstructions : Prop :=
  ∀ (k : Nat) (s : State), s.status = .running → s.steps = 0 → k ≤ s.maxSteps →
    ∃ t u, runSteps k s = .next t ∧ runSteps (k + 1) { s with maxSteps := k } = .next u
      ∧ (t.status.ended = true → u = { t with maxSteps := k })
      ∧ (t.status = .running → u = { t with
          maxSteps := k
          status := if t.prog.length ≤ t.pc.toNat then .halted else .faulted .resourceExhausted })

/-- R33, R35: the host gets back the registers, the flags, the memory, the program counter, the tick and the outcome, and not
the step count; and a run does not depend on the status and the step count of the state it is given (R170, R262), nor on its
port history (log 15). -/
def Obligations.TheStepCountIsHiddenFromTheHost : Prop :=
  (∀ s : State, s.reported.finalState.regs = s.regs ∧ s.reported.finalState.z = s.z ∧ s.reported.finalState.c = s.c
    ∧ s.reported.finalState.mem = s.mem ∧ s.reported.finalState.pc = s.pc ∧ s.reported.finalState.tick = s.tick
    ∧ s.reported.outcome = s.status)
  ∧ (∀ (s : State) (k : Nat), ({ s with steps := k } : State).reported = s.reported)
  ∧ (∀ (prog : List Word36) (s0 : State) (n : Int) (k : Nat) (st : Status) (h : List PortEvent),
    runScenario prog { s0 with steps := k, status := st, history := h } n = runScenario prog s0 n)
end

