-- ==== Sys2Proof/Laws/Encoding.lean ====
section
/-! SUPPORT. The fields of an assembled word (spec/30_encoding.md R62): each reads back what was put there. -/

namespace Sys2Proof

@[simp] theorem opField_wordOf (op : Op) (r : BitVec 4) (f : BitVec 3) (a b : BitVec 12) :
    opField (wordOf op r f a b) = op.number := by
  unfold opField wordOf
  ext i hi
  simp only [BitVec.getElem_extractLsb', BitVec.getLsbD_append]
  interval_cases i <;> simp

@[simp] theorem rField_wordOf (op : Op) (r : BitVec 4) (f : BitVec 3) (a b : BitVec 12) :
    rField (wordOf op r f a b) = r := by
  unfold rField wordOf
  ext i hi
  simp only [BitVec.getElem_extractLsb', BitVec.getLsbD_append]
  interval_cases i <;> simp

@[simp] theorem fField_wordOf (op : Op) (r : BitVec 4) (f : BitVec 3) (a b : BitVec 12) :
    fField (wordOf op r f a b) = f := by
  unfold fField wordOf
  ext i hi
  simp only [BitVec.getElem_extractLsb', BitVec.getLsbD_append]
  interval_cases i <;> simp

@[simp] theorem aField_wordOf (op : Op) (r : BitVec 4) (f : BitVec 3) (a b : BitVec 12) :
    aField (wordOf op r f a b) = a := by
  unfold aField wordOf
  ext i hi
  simp only [BitVec.getElem_extractLsb', BitVec.getLsbD_append]
  interval_cases i <;> simp

@[simp] theorem bField_wordOf (op : Op) (r : BitVec 4) (f : BitVec 3) (a b : BitVec 12) :
    bField (wordOf op r f a b) = b := by
  unfold bField wordOf
  ext i hi
  simp only [BitVec.getElem_extractLsb', BitVec.getLsbD_append]
  interval_cases i <;> simp

/-- R62: a word is made of its five fields. -/
theorem wordOf_fields (op : Op) (w : Word36) (h : opField w = op.number) :
    wordOf op (rField w) (fField w) (aField w) (bField w) = w := by
  unfold wordOf
  rw [← h]
  unfold opField rField fField aField bField
  ext i hi
  simp only [BitVec.getElem_append, BitVec.getElem_extractLsb']
  split
  · simp [BitVec.getLsbD_eq_getElem, hi]
  · split
    · rw [show 12 + (i - 12) = i by omega, BitVec.getLsbD_eq_getElem hi]
    · split
      · rw [show 24 + (i - 12 - 12) = i by omega, BitVec.getLsbD_eq_getElem hi]
      · split
        · rw [show 27 + (i - 12 - 12 - 3) = i by omega, BitVec.getLsbD_eq_getElem hi]
        · rw [show 31 + (i - 12 - 12 - 3 - 4) = i by omega, BitVec.getLsbD_eq_getElem hi]

@[simp] theorem opOfNumber_number (op : Op) : opOfNumber op.number = some op := by cases op <;> rfl

/-- R69: an opcode's number is its own. -/
theorem number_of_opOfNumber : ∀ (n : BitVec 5) (op : Op), opOfNumber n = some op → op.number = n := by decide

/-- R69, R74: the numbers below 0x17 are those that have an opcode. -/
theorem opOfNumber_eq_none_iff : ∀ n : BitVec 5, opOfNumber n = none ↔ 0x17 ≤ n.toNat := by decide

/-! ### Fields of a word, further -/

@[simp] theorem formA_wordOf (op : Op) (r : BitVec 4) (f : BitVec 3) (a b : BitVec 12) :
    formA (wordOf op r f a b) = f[2] := by
  rw [formA, fField_wordOf]; rfl

@[simp] theorem formB_wordOf (op : Op) (r : BitVec 4) (f : BitVec 3) (a b : BitVec 12) :
    formB (wordOf op r f a b) = f[1] := by
  rw [formB, fField_wordOf]; rfl

/-- R66: a literal is field A above field B. -/
theorem literal24_wordOf (op : Op) (r : BitVec 4) (f : BitVec 3) (a b : BitVec 12) :
    (literal24 (wordOf op r f a b)).extractLsb' 12 12 = a ∧ (literal24 (wordOf op r f a b)).extractLsb' 0 12 = b := by
  unfold literal24 wordOf
  constructor <;>
    (ext i hi
     simp only [BitVec.getElem_extractLsb', BitVec.getLsbD_append, BitVec.getLsbD_extractLsb']
     interval_cases i <;> simp [BitVec.getLsbD_eq_getElem])

@[simp] theorem literal24_wordOf_halves (op : Op) (r : BitVec 4) (f : BitVec 3) (t : BitVec 24) :
    literal24 (wordOf op r f (t.extractLsb' 12 12) (t.extractLsb' 0 12)) = t := by
  unfold literal24 wordOf
  ext i hi
  simp only [BitVec.getElem_extractLsb', BitVec.getLsbD_append, BitVec.getLsbD_extractLsb']
  interval_cases i <;> simp [BitVec.getLsbD_eq_getElem]

@[simp] theorem formBits_two (fa fb : Bool) : (formBits fa fb)[2] = fa := by cases fa <;> cases fb <;> rfl
@[simp] theorem formBits_one (fa fb : Bool) : (formBits fa fb)[1] = fb := by cases fa <;> cases fb <;> rfl

/-! ### Reserved bits -/

theorem append_eq_zero_iff {n m : Nat} (x : BitVec n) (y : BitVec m) : x ++ y = 0 ↔ x = 0 ∧ y = 0 := by
  constructor
  · intro h
    have h1 := congrArg BitVec.toNat h
    rw [BitVec.toNat_append] at h1
    simp [Nat.or_eq_zero_iff, Nat.shiftLeft_eq] at h1
    constructor
    · apply BitVec.eq_of_toNat_eq; simp [h1.1]
    · apply BitVec.eq_of_toNat_eq; simp [h1.2]
  · rintro ⟨rfl, rfl⟩; simp

/-- A mask of four fields meets a word exactly where each of its fields meets the word's. -/
theorem wordOf_and_mask_eq_zero_iff (op : Op) (r : BitVec 4) (f : BitVec 3) (a b : BitVec 12)
    (mr : BitVec 4) (mf : BitVec 3) (ma mb : BitVec 12) :
    wordOf op r f a b &&& (0#5 ++ mr ++ mf ++ ma ++ mb) = 0#36
      ↔ r &&& mr = 0 ∧ f &&& mf = 0 ∧ a &&& ma = 0 ∧ b &&& mb = 0 := by
  unfold wordOf
  rw [BitVec.and_append, BitVec.and_append, BitVec.and_append, BitVec.and_append,
    show (0#36 : BitVec 36) = (0 : BitVec (5 + 4 + 3 + 12 + 12)) from rfl, append_eq_zero_iff, append_eq_zero_iff,
    append_eq_zero_iff, append_eq_zero_iff]
  simp [and_assoc]

theorem and_mask12_eq_zero_iff (b : BitVec 12) : b &&& 0xFFF#12 = 0 ↔ b = 0 := by
  rw [show (0xFFF#12 : BitVec 12) = BitVec.allOnes 12 from rfl, BitVec.and_allOnes]
theorem and_mask4_eq_zero_iff : ∀ r : BitVec 4, r &&& 15#4 = 0 ↔ r = 0 := by decide
theorem and_mask3_eq_zero_iff : ∀ f : BitVec 3, f &&& 7#3 = 0 ↔ f = 0 := by decide
theorem and_low2_eq_zero_iff : ∀ r : BitVec 4, r &&& 3#4 = 0 ↔ ∃ c : BitVec 2, r = c ++ 0#2 := by decide
theorem and_low1_of_f_eq_zero_iff : ∀ f : BitVec 3, f &&& 1#3 = 0 ↔ f = formBits f[2] f[1] := by decide
theorem and_low2_of_f_eq_zero_iff : ∀ f : BitVec 3, f &&& 3#3 = 0 ↔ f = formBits f[2] false := by decide

/-- R63: what the reserved bits of format A2 leave. -/
theorem reserved_a2 (op : Op) (r : BitVec 4) (f : BitVec 3) (a b : BitVec 12) (m : Bool) :
    wordOf op r f a b &&& Format.a2.reserved m = 0#36 ↔ f = formBits f[2] f[1] := by
  rw [← and_low1_of_f_eq_zero_iff]
  exact (wordOf_and_mask_eq_zero_iff op r f a b 0#4 1#3 0#12 0#12).trans (by simp)

/-- R63: what the reserved bits of format A1 leave. -/
theorem reserved_a1 (op : Op) (r : BitVec 4) (f : BitVec 3) (a b : BitVec 12) (m : Bool) :
    wordOf op r f a b &&& Format.a1.reserved m = 0#36 ↔ f = formBits f[2] false ∧ b = 0 := by
  rw [← and_low2_of_f_eq_zero_iff, ← and_mask12_eq_zero_iff b]
  exact (wordOf_and_mask_eq_zero_iff op r f a b 0#4 3#3 0#12 0xFFF#12).trans (by simp)

/-- R63: what the reserved bits of format M leave in a word of a literal. -/
theorem reserved_m_abs (op : Op) (r : BitVec 4) (f : BitVec 3) (a b : BitVec 12) :
    wordOf op r f a b &&& Format.m.reserved true = 0#36 ↔ f = formBits f[2] false := by
  rw [← and_low2_of_f_eq_zero_iff]
  exact (wordOf_and_mask_eq_zero_iff op r f a b 0#4 3#3 0#12 0#12).trans (by simp)

/-- R63: what the reserved bits of format M leave in a word of a register. -/
theorem reserved_m_ind (op : Op) (r : BitVec 4) (f : BitVec 3) (a b : BitVec 12) :
    wordOf op r f a b &&& Format.m.reserved false = 0#36 ↔ f = formBits f[2] false ∧ b = 0 :=
  reserved_a1 op r f a b false

/-- R63: what the reserved bits of format J leave. -/
theorem reserved_j (op : Op) (r : BitVec 4) (f : BitVec 3) (a b : BitVec 12) (m : Bool) :
    wordOf op r f a b &&& Format.j.reserved m = 0#36 ↔ r = 0 ∧ f = 0 := by
  rw [← and_mask4_eq_zero_iff r, ← and_mask3_eq_zero_iff f]
  exact (wordOf_and_mask_eq_zero_iff op r f a b 15#4 7#3 0#12 0#12).trans (by simp)

/-- R63: what the reserved bits of format JC leave. -/
theorem reserved_jc (op : Op) (r : BitVec 4) (f : BitVec 3) (a b : BitVec 12) (m : Bool) :
    wordOf op r f a b &&& Format.jc.reserved m = 0#36 ↔ (∃ c : BitVec 2, r = c ++ 0#2) ∧ f = 0 := by
  rw [← and_low2_eq_zero_iff, ← and_mask3_eq_zero_iff f]
  exact (wordOf_and_mask_eq_zero_iff op r f a b 3#4 7#3 0#12 0#12).trans (by simp)

/-- R63: what the reserved bits of format N leave. -/
theorem reserved_n (op : Op) (r : BitVec 4) (f : BitVec 3) (a b : BitVec 12) (m : Bool) :
    wordOf op r f a b &&& Format.n.reserved m = 0#36 ↔ r = 0 ∧ f = 0 ∧ a = 0 ∧ b = 0 := by
  rw [← and_mask4_eq_zero_iff r, ← and_mask3_eq_zero_iff f, ← and_mask12_eq_zero_iff a, ← and_mask12_eq_zero_iff b]
  exact wordOf_and_mask_eq_zero_iff op r f a b 15#4 7#3 0xFFF#12 0xFFF#12

/-- R63: what the reserved bits of format K leave. -/
theorem reserved_k (op : Op) (r : BitVec 4) (f : BitVec 3) (a b : BitVec 12) (m : Bool) :
    wordOf op r f a b &&& Format.k.reserved m = 0#36 ↔ f = 0 ∧ b = 0 := by
  rw [← and_mask3_eq_zero_iff f, ← and_mask12_eq_zero_iff b]
  exact (wordOf_and_mask_eq_zero_iff op r f a b 0#4 7#3 0#12 0xFFF#12).trans (by simp)

/-- R63: what the reserved bits of format C3 leave. -/
theorem reserved_c3 (op : Op) (r : BitVec 4) (f : BitVec 3) (a b : BitVec 12) (m : Bool) :
    wordOf op r f a b &&& Format.c3.reserved m = 0#36 ↔ f = 0 := by
  rw [← and_mask3_eq_zero_iff f]
  exact (wordOf_and_mask_eq_zero_iff op r f a b 0#4 7#3 0#12 0#12).trans (by simp)

/-- R63: format Q has no reserved bit. -/
theorem reserved_q (op : Op) (r : BitVec 4) (f : BitVec 3) (a b : BitVec 12) (m : Bool) :
    wordOf op r f a b &&& Format.q.reserved m = 0#36 :=
  BitVec.and_zero

/-! ### Fields that hold registers, operands and conditions -/

@[simp] theorem regOfField_fieldOfReg : ∀ i : RegIdx, regOfField (fieldOfReg i) = i := by decide
@[simp] theorem highBitsZero_fieldOfReg : ∀ i : RegIdx, highBitsZero (fieldOfReg i) = true := by decide
theorem highBitsZero_iff : ∀ field : BitVec 12, highBitsZero field = true ↔ field.toNat < 16 := by decide

/-- R64: a field whose high bits are zero is the field of its register. -/
theorem fieldOfReg_regOfField : ∀ field : BitVec 12, highBitsZero field = true → fieldOfReg (regOfField field) = field := by
  decide

@[simp] theorem condOf_code (cond : Cond) : condOf cond.code = cond := by cases cond <;> rfl
theorem code_condOf : ∀ code : BitVec 2, (condOf code).code = code := by decide

@[simp] theorem operandOf_form_field (a : Operand) : operandOf a.form a.field = a := by
  cases a <;> simp [operandOf, Operand.form, Operand.field]

@[simp] theorem form_operandOf (form : Bool) (field : BitVec 12) : (operandOf form field).form = form := by
  cases form <;> rfl

theorem field_operandOf (form : Bool) (field : BitVec 12) (h : form = true ∨ highBitsZero field = true) :
    (operandOf form field).field = field := by
  cases form
  · exact fieldOfReg_regOfField field (by simpa using h)
  · rfl

/-- R75 steps 2 to 4, on a word of its fields. -/
theorem wordShaped_wordOf (op : Op) (r : BitVec 4) (f : BitVec 3) (a b : BitVec 12) :
    wordShaped op (wordOf op r f a b) = true ↔
      wordOf op r f a b &&& op.format.reserved f[2] = 0#36 ∧ op.formAllowed f[2] = true
        ∧ (op.format.regInA f[2] = true → highBitsZero a = true)
        ∧ (op.format.regInB f[1] = true → highBitsZero b = true) := by
  simp only [wordShaped, formA_wordOf, formB_wordOf, aField_wordOf, bField_wordOf, Bool.and_eq_true, beq_iff_eq,
    Bool.or_eq_true, Bool.not_eq_true']
  cases op.format.regInA f[2] <;> cases op.format.regInB f[1] <;> simp [and_assoc]

end Sys2Proof
end

