-- ==== Sys2Proof/Laws/Memory.lean ====
section
/-! SUPPORT. The laws of the data memory: every operation keeps the canonical form and the bound on addresses, and a read sees
the last write of its cell (spec/20_memory.md R44, R45). -/

namespace Sys2Proof.Machine

theorem Memory.wf_cons {a : Nat} {v : IU} {m : Memory} :
    Memory.wf ((a, v) :: m) = true ↔ v ≠ Memory.unlisted ∧ (∀ cell ∈ m, a < cell.1) ∧ Memory.wf m = true := by
  simp [Memory.wf, and_assoc]

/-- A cell below every listed address reads as an unlisted one. -/
theorem Memory.read_of_lt_all {m : Memory} {a : Nat} (h : ∀ cell ∈ m, a < cell.1) : m.read a = Memory.unlisted := by
  induction m with
  | nil => rfl
  | cons p m ih =>
    obtain ⟨b, u⟩ := p
    have hb : a < b := h (b, u) (by simp)
    rw [Memory.read, if_neg (by omega)]
    exact ih fun cell hc => h cell (by simp [hc])

/-- A write lists no address but its own and those listed before. -/
theorem Memory.mem_write {m : Memory} {a : Nat} {v : IU} {cell : Cell} (h : cell ∈ m.write a v) :
    cell.1 = a ∨ cell ∈ m := by
  induction m with
  | nil =>
    rw [Memory.write] at h
    split at h <;> simp_all
  | cons p m ih =>
    obtain ⟨b, u⟩ := p
    rw [Memory.write] at h
    split at h
    · split at h
      · exact .inr h
      · rcases List.mem_cons.1 h with rfl | h
        · exact .inl rfl
        · exact .inr h
    · split at h
      · split at h
        · exact .inr (List.mem_cons_of_mem _ h)
        · rcases List.mem_cons.1 h with rfl | h
          · exact .inl rfl
          · exact .inr (List.mem_cons_of_mem _ h)
      · rcases List.mem_cons.1 h with rfl | h
        · exact .inr (by simp)
        · rcases ih h with h | h
          · exact .inl h
          · exact .inr (List.mem_cons_of_mem _ h)

/-- A write keeps the canonical form. -/
theorem Memory.write_wf {m : Memory} (h : m.wf = true) (a : Nat) (v : IU) : (m.write a v).wf = true := by
  induction m with
  | nil =>
    rw [Memory.write]
    split
    · rfl
    · rename_i hv
      exact Memory.wf_cons.2 ⟨hv, by simp, rfl⟩
  | cons p m ih =>
    obtain ⟨b, u⟩ := p
    obtain ⟨hu, hall, hm⟩ := Memory.wf_cons.1 h
    rw [Memory.write]
    split
    · rename_i hab
      split
      · exact h
      · rename_i hv
        refine Memory.wf_cons.2 ⟨hv, fun cell hc => ?_, h⟩
        rcases List.mem_cons.1 hc with rfl | hc
        · exact hab
        · exact Nat.lt_trans hab (hall cell hc)
    · split
      · rename_i hab
        subst hab
        split
        · exact hm
        · rename_i hv
          exact Memory.wf_cons.2 ⟨hv, hall, hm⟩
      · refine Memory.wf_cons.2 ⟨hu, fun cell hc => ?_, ih hm⟩
        rcases Memory.mem_write hc with hc | hc
        · omega
        · exact hall cell hc

/-- R44: a write gives its cell the value, and changes no other cell. -/
theorem Memory.read_write {m : Memory} (h : m.wf = true) (a b : Nat) (v : IU) :
    (m.write a v).read b = if b = a then v else m.read b := by
  induction m with
  | nil =>
    rw [Memory.write]
    split
    · rename_i hv; simp [Memory.read, hv]
    · simp [Memory.read]
  | cons p m ih =>
    obtain ⟨c, u⟩ := p
    obtain ⟨-, hall, hm⟩ := Memory.wf_cons.1 h
    rw [Memory.write]
    split
    · rename_i hac
      split
      · rename_i hv
        split
        · rename_i hb
          subst hb
          rw [hv]
          refine Memory.read_of_lt_all fun cell hc => ?_
          rcases List.mem_cons.1 hc with rfl | hc
          · exact hac
          · exact Nat.lt_trans hac (hall cell hc)
        · rfl
      · rfl
    · split
      · rename_i hac
        subst hac
        split
        · rename_i hv
          rw [Memory.read]
          split
          · rename_i hb
            subst hb
            rw [hv]
            exact Memory.read_of_lt_all hall
          · rfl
        · rw [Memory.read, Memory.read]
          split <;> rfl
      · rename_i hac
        rw [Memory.read, Memory.read, ih hm]
        split
        · rename_i hb
          rw [if_neg (by omega)]
        · rfl

/-- A write to a cell below a bound keeps the listed addresses below it. -/
theorem Memory.write_below {m : Memory} {n a : Nat} (h : ∀ cell ∈ m, cell.1 < n) (ha : a < n) (v : IU) :
    ∀ cell ∈ m.write a v, cell.1 < n := by
  intro cell hc
  rcases Memory.mem_write hc with hc | hc
  · omega
  · exact h cell hc

/-- A multi-cell write keeps the canonical form. -/
theorem Memory.writeMany_wf {vs : List IU} {m : Memory} (h : m.wf = true) (a : Nat) : (m.writeMany a vs).wf = true := by
  induction vs generalizing m a with
  | nil => exact h
  | cons v vs ih => exact ih (Memory.write_wf h a v) (a + 1)

/-- A multi-cell write below a bound keeps the listed addresses below it. -/
theorem Memory.writeMany_below {vs : List IU} {m : Memory} {n a : Nat} (h : ∀ cell ∈ m, cell.1 < n)
    (ha : vs = [] ∨ a + vs.length ≤ n) : ∀ cell ∈ m.writeMany a vs, cell.1 < n := by
  induction vs generalizing m a with
  | nil => exact h
  | cons v vs ih =>
    have hle : a + (vs.length + 1) ≤ n := by simpa using ha
    exact ih (Memory.write_below h (by omega) v) (.inr (by omega))

/-- R45: a multi-cell write changes no cell outside its area. -/
theorem Memory.read_writeMany_outside {vs : List IU} {m : Memory} (h : m.wf = true) {a b : Nat}
    (hb : b < a ∨ a + vs.length ≤ b) : (m.writeMany a vs).read b = m.read b := by
  induction vs generalizing m a with
  | nil => rfl
  | cons v vs ih =>
    have hb' : b < a ∨ a + (vs.length + 1) ≤ b := by simpa using hb
    rw [Memory.writeMany, ih (Memory.write_wf h a v) (by omega), Memory.read_write h, if_neg (by omega)]

/-- R45: a multi-cell write gives each cell of its area its value. -/
theorem Memory.read_writeMany_inside {vs : List IU} {m : Memory} (h : m.wf = true) (a k : Nat) (hk : k < vs.length) :
    (m.writeMany a vs).read (a + k) = vs[k] := by
  induction vs generalizing m a k with
  | nil => simp at hk
  | cons v vs ih =>
    rw [Memory.writeMany]
    cases k with
    | zero =>
      rw [Memory.read_writeMany_outside (Memory.write_wf h a v) (.inl (by omega)), Memory.read_write h]
      simp
    | succ k =>
      have hk' : k < vs.length := by simpa using hk
      have := ih (Memory.write_wf h a v) (a + 1) k hk'
      rw [show a + (k + 1) = a + 1 + k by omega, this]
      simp

@[simp] theorem Memory.readMany_length (m : Memory) (a n : Nat) : (m.readMany a n).length = n := by
  induction n generalizing a with
  | zero => rfl
  | succ n ih => simp [Memory.readMany, ih]

/-- R14: a multi-cell read lists the cells of its area in order. -/
theorem Memory.readMany_getElem (m : Memory) (a n k : Nat) (hk : k < (m.readMany a n).length) :
    (m.readMany a n)[k] = m.read (a + k) := by
  induction n generalizing a k with
  | zero => simp [Memory.readMany] at hk
  | succ n ih =>
    cases k with
    | zero => rfl
    | succ k =>
      have hk' : k < (m.readMany (a + 1) n).length := by simpa [Memory.readMany] using hk
      have := ih (a + 1) k hk'
      simp only [Memory.readMany, List.getElem_cons_succ]
      rw [this, show a + 1 + k = a + (k + 1) by omega]

/-- The memory at reset lists nothing and is in canonical form. -/
theorem Memory.reset_wf : State.reset.mem.wf = true := rfl

end Sys2Proof.Machine
end

