-- ==== Sys2Proof/Laws/State.lean ====
section
/-! SUPPORT. One lemma for each field and each update of the state, and for each update the registers and cells it leaves. -/

namespace Sys2Proof.Machine

/-! ### setReg -/

@[simp] theorem State.setReg_regs (s : State) (i : RegIdx) (v : IU) : (s.setReg i v).regs = s.regs.set i v := rfl
@[simp] theorem State.setReg_z (s : State) (i : RegIdx) (v : IU) : (s.setReg i v).z = s.z := rfl
@[simp] theorem State.setReg_c (s : State) (i : RegIdx) (v : IU) : (s.setReg i v).c = s.c := rfl
@[simp] theorem State.setReg_mem (s : State) (i : RegIdx) (v : IU) : (s.setReg i v).mem = s.mem := rfl
@[simp] theorem State.setReg_pc (s : State) (i : RegIdx) (v : IU) : (s.setReg i v).pc = s.pc := rfl
@[simp] theorem State.setReg_tick (s : State) (i : RegIdx) (v : IU) : (s.setReg i v).tick = s.tick := rfl
@[simp] theorem State.setReg_status (s : State) (i : RegIdx) (v : IU) : (s.setReg i v).status = s.status := rfl
@[simp] theorem State.setReg_steps (s : State) (i : RegIdx) (v : IU) : (s.setReg i v).steps = s.steps := rfl
@[simp] theorem State.setReg_contentStore (s : State) (i : RegIdx) (v : IU) : (s.setReg i v).contentStore = s.contentStore := rfl
@[simp] theorem State.setReg_drsStore (s : State) (i : RegIdx) (v : IU) : (s.setReg i v).drsStore = s.drsStore := rfl
@[simp] theorem State.setReg_history (s : State) (i : RegIdx) (v : IU) : (s.setReg i v).history = s.history := rfl
@[simp] theorem State.setReg_prog (s : State) (i : RegIdx) (v : IU) : (s.setReg i v).prog = s.prog := rfl
@[simp] theorem State.setReg_maxSteps (s : State) (i : RegIdx) (v : IU) : (s.setReg i v).maxSteps = s.maxSteps := rfl
@[simp] theorem State.setReg_memCap (s : State) (i : RegIdx) (v : IU) : (s.setReg i v).memCap = s.memCap := rfl
@[simp] theorem State.setReg_unfoldAnswers (s : State) (i : RegIdx) (v : IU) : (s.setReg i v).unfoldAnswers = s.unfoldAnswers := rfl
@[simp] theorem State.setReg_queryAnswers (s : State) (i : RegIdx) (v : IU) : (s.setReg i v).queryAnswers = s.queryAnswers := rfl
@[simp] theorem State.setReg_cell (s : State) (i : RegIdx) (v : IU) (b : Nat) : (s.setReg i v).cell b = s.cell b := rfl

/-! ### setFlags -/

@[simp] theorem State.setFlags_regs (s : State) (z c : Bool) : (s.setFlags z c).regs = s.regs := rfl
@[simp] theorem State.setFlags_z (s : State) (z c : Bool) : (s.setFlags z c).z = z := rfl
@[simp] theorem State.setFlags_c (s : State) (z c : Bool) : (s.setFlags z c).c = c := rfl
@[simp] theorem State.setFlags_mem (s : State) (z c : Bool) : (s.setFlags z c).mem = s.mem := rfl
@[simp] theorem State.setFlags_pc (s : State) (z c : Bool) : (s.setFlags z c).pc = s.pc := rfl
@[simp] theorem State.setFlags_tick (s : State) (z c : Bool) : (s.setFlags z c).tick = s.tick := rfl
@[simp] theorem State.setFlags_status (s : State) (z c : Bool) : (s.setFlags z c).status = s.status := rfl
@[simp] theorem State.setFlags_steps (s : State) (z c : Bool) : (s.setFlags z c).steps = s.steps := rfl
@[simp] theorem State.setFlags_contentStore (s : State) (z c : Bool) : (s.setFlags z c).contentStore = s.contentStore := rfl
@[simp] theorem State.setFlags_drsStore (s : State) (z c : Bool) : (s.setFlags z c).drsStore = s.drsStore := rfl
@[simp] theorem State.setFlags_history (s : State) (z c : Bool) : (s.setFlags z c).history = s.history := rfl
@[simp] theorem State.setFlags_prog (s : State) (z c : Bool) : (s.setFlags z c).prog = s.prog := rfl
@[simp] theorem State.setFlags_maxSteps (s : State) (z c : Bool) : (s.setFlags z c).maxSteps = s.maxSteps := rfl
@[simp] theorem State.setFlags_memCap (s : State) (z c : Bool) : (s.setFlags z c).memCap = s.memCap := rfl
@[simp] theorem State.setFlags_unfoldAnswers (s : State) (z c : Bool) : (s.setFlags z c).unfoldAnswers = s.unfoldAnswers := rfl
@[simp] theorem State.setFlags_queryAnswers (s : State) (z c : Bool) : (s.setFlags z c).queryAnswers = s.queryAnswers := rfl
@[simp] theorem State.setFlags_reg (s : State) (z c : Bool) (j : RegIdx) : (s.setFlags z c).reg j = s.reg j := rfl
@[simp] theorem State.setFlags_cell (s : State) (z c : Bool) (b : Nat) : (s.setFlags z c).cell b = s.cell b := rfl

/-! ### setCell -/

@[simp] theorem State.setCell_regs (s : State) (a : Nat) (v : IU) : (s.setCell a v).regs = s.regs := rfl
@[simp] theorem State.setCell_z (s : State) (a : Nat) (v : IU) : (s.setCell a v).z = s.z := rfl
@[simp] theorem State.setCell_c (s : State) (a : Nat) (v : IU) : (s.setCell a v).c = s.c := rfl
@[simp] theorem State.setCell_mem (s : State) (a : Nat) (v : IU) : (s.setCell a v).mem = s.mem.write a v := rfl
@[simp] theorem State.setCell_pc (s : State) (a : Nat) (v : IU) : (s.setCell a v).pc = s.pc := rfl
@[simp] theorem State.setCell_tick (s : State) (a : Nat) (v : IU) : (s.setCell a v).tick = s.tick := rfl
@[simp] theorem State.setCell_status (s : State) (a : Nat) (v : IU) : (s.setCell a v).status = s.status := rfl
@[simp] theorem State.setCell_steps (s : State) (a : Nat) (v : IU) : (s.setCell a v).steps = s.steps := rfl
@[simp] theorem State.setCell_contentStore (s : State) (a : Nat) (v : IU) : (s.setCell a v).contentStore = s.contentStore := rfl
@[simp] theorem State.setCell_drsStore (s : State) (a : Nat) (v : IU) : (s.setCell a v).drsStore = s.drsStore := rfl
@[simp] theorem State.setCell_history (s : State) (a : Nat) (v : IU) : (s.setCell a v).history = s.history := rfl
@[simp] theorem State.setCell_prog (s : State) (a : Nat) (v : IU) : (s.setCell a v).prog = s.prog := rfl
@[simp] theorem State.setCell_maxSteps (s : State) (a : Nat) (v : IU) : (s.setCell a v).maxSteps = s.maxSteps := rfl
@[simp] theorem State.setCell_memCap (s : State) (a : Nat) (v : IU) : (s.setCell a v).memCap = s.memCap := rfl
@[simp] theorem State.setCell_unfoldAnswers (s : State) (a : Nat) (v : IU) : (s.setCell a v).unfoldAnswers = s.unfoldAnswers := rfl
@[simp] theorem State.setCell_queryAnswers (s : State) (a : Nat) (v : IU) : (s.setCell a v).queryAnswers = s.queryAnswers := rfl
@[simp] theorem State.setCell_reg (s : State) (a : Nat) (v : IU) (j : RegIdx) : (s.setCell a v).reg j = s.reg j := rfl

/-! ### setCells -/

@[simp] theorem State.setCells_regs (s : State) (a : Nat) (vs : List IU) : (s.setCells a vs).regs = s.regs := rfl
@[simp] theorem State.setCells_z (s : State) (a : Nat) (vs : List IU) : (s.setCells a vs).z = s.z := rfl
@[simp] theorem State.setCells_c (s : State) (a : Nat) (vs : List IU) : (s.setCells a vs).c = s.c := rfl
@[simp] theorem State.setCells_mem (s : State) (a : Nat) (vs : List IU) : (s.setCells a vs).mem = s.mem.writeMany a vs := rfl
@[simp] theorem State.setCells_pc (s : State) (a : Nat) (vs : List IU) : (s.setCells a vs).pc = s.pc := rfl
@[simp] theorem State.setCells_tick (s : State) (a : Nat) (vs : List IU) : (s.setCells a vs).tick = s.tick := rfl
@[simp] theorem State.setCells_status (s : State) (a : Nat) (vs : List IU) : (s.setCells a vs).status = s.status := rfl
@[simp] theorem State.setCells_steps (s : State) (a : Nat) (vs : List IU) : (s.setCells a vs).steps = s.steps := rfl
@[simp] theorem State.setCells_contentStore (s : State) (a : Nat) (vs : List IU) : (s.setCells a vs).contentStore = s.contentStore := rfl
@[simp] theorem State.setCells_drsStore (s : State) (a : Nat) (vs : List IU) : (s.setCells a vs).drsStore = s.drsStore := rfl
@[simp] theorem State.setCells_history (s : State) (a : Nat) (vs : List IU) : (s.setCells a vs).history = s.history := rfl
@[simp] theorem State.setCells_prog (s : State) (a : Nat) (vs : List IU) : (s.setCells a vs).prog = s.prog := rfl
@[simp] theorem State.setCells_maxSteps (s : State) (a : Nat) (vs : List IU) : (s.setCells a vs).maxSteps = s.maxSteps := rfl
@[simp] theorem State.setCells_memCap (s : State) (a : Nat) (vs : List IU) : (s.setCells a vs).memCap = s.memCap := rfl
@[simp] theorem State.setCells_unfoldAnswers (s : State) (a : Nat) (vs : List IU) : (s.setCells a vs).unfoldAnswers = s.unfoldAnswers := rfl
@[simp] theorem State.setCells_queryAnswers (s : State) (a : Nat) (vs : List IU) : (s.setCells a vs).queryAnswers = s.queryAnswers := rfl
@[simp] theorem State.setCells_reg (s : State) (a : Nat) (vs : List IU) (j : RegIdx) : (s.setCells a vs).reg j = s.reg j := rfl

/-! ### advance -/

@[simp] theorem State.advance_regs (s : State) : s.advance.regs = s.regs := rfl
@[simp] theorem State.advance_z (s : State) : s.advance.z = s.z := rfl
@[simp] theorem State.advance_c (s : State) : s.advance.c = s.c := rfl
@[simp] theorem State.advance_mem (s : State) : s.advance.mem = s.mem := rfl
@[simp] theorem State.advance_pc (s : State) : s.advance.pc = s.pc + 1 := rfl
@[simp] theorem State.advance_tick (s : State) : s.advance.tick = s.tick := rfl
@[simp] theorem State.advance_status (s : State) : s.advance.status = s.status := rfl
@[simp] theorem State.advance_steps (s : State) : s.advance.steps = s.steps := rfl
@[simp] theorem State.advance_contentStore (s : State) : s.advance.contentStore = s.contentStore := rfl
@[simp] theorem State.advance_drsStore (s : State) : s.advance.drsStore = s.drsStore := rfl
@[simp] theorem State.advance_history (s : State) : s.advance.history = s.history := rfl
@[simp] theorem State.advance_prog (s : State) : s.advance.prog = s.prog := rfl
@[simp] theorem State.advance_maxSteps (s : State) : s.advance.maxSteps = s.maxSteps := rfl
@[simp] theorem State.advance_memCap (s : State) : s.advance.memCap = s.memCap := rfl
@[simp] theorem State.advance_unfoldAnswers (s : State) : s.advance.unfoldAnswers = s.unfoldAnswers := rfl
@[simp] theorem State.advance_queryAnswers (s : State) : s.advance.queryAnswers = s.queryAnswers := rfl
@[simp] theorem State.advance_reg (s : State) (j : RegIdx) : s.advance.reg j = s.reg j := rfl
@[simp] theorem State.advance_cell (s : State) (b : Nat) : s.advance.cell b = s.cell b := rfl

/-! ### jumpTo -/

@[simp] theorem State.jumpTo_regs (s : State) (t : Index) : (s.jumpTo t).regs = s.regs := rfl
@[simp] theorem State.jumpTo_z (s : State) (t : Index) : (s.jumpTo t).z = s.z := rfl
@[simp] theorem State.jumpTo_c (s : State) (t : Index) : (s.jumpTo t).c = s.c := rfl
@[simp] theorem State.jumpTo_mem (s : State) (t : Index) : (s.jumpTo t).mem = s.mem := rfl
@[simp] theorem State.jumpTo_pc (s : State) (t : Index) : (s.jumpTo t).pc = t := rfl
@[simp] theorem State.jumpTo_tick (s : State) (t : Index) : (s.jumpTo t).tick = s.tick := rfl
@[simp] theorem State.jumpTo_status (s : State) (t : Index) : (s.jumpTo t).status = s.status := rfl
@[simp] theorem State.jumpTo_steps (s : State) (t : Index) : (s.jumpTo t).steps = s.steps := rfl
@[simp] theorem State.jumpTo_contentStore (s : State) (t : Index) : (s.jumpTo t).contentStore = s.contentStore := rfl
@[simp] theorem State.jumpTo_drsStore (s : State) (t : Index) : (s.jumpTo t).drsStore = s.drsStore := rfl
@[simp] theorem State.jumpTo_history (s : State) (t : Index) : (s.jumpTo t).history = s.history := rfl
@[simp] theorem State.jumpTo_prog (s : State) (t : Index) : (s.jumpTo t).prog = s.prog := rfl
@[simp] theorem State.jumpTo_maxSteps (s : State) (t : Index) : (s.jumpTo t).maxSteps = s.maxSteps := rfl
@[simp] theorem State.jumpTo_memCap (s : State) (t : Index) : (s.jumpTo t).memCap = s.memCap := rfl
@[simp] theorem State.jumpTo_unfoldAnswers (s : State) (t : Index) : (s.jumpTo t).unfoldAnswers = s.unfoldAnswers := rfl
@[simp] theorem State.jumpTo_queryAnswers (s : State) (t : Index) : (s.jumpTo t).queryAnswers = s.queryAnswers := rfl
@[simp] theorem State.jumpTo_reg (s : State) (t : Index) (j : RegIdx) : (s.jumpTo t).reg j = s.reg j := rfl
@[simp] theorem State.jumpTo_cell (s : State) (t : Index) (b : Nat) : (s.jumpTo t).cell b = s.cell b := rfl

/-! ### halt -/

@[simp] theorem State.halt_regs (s : State) : s.halt.regs = s.regs := rfl
@[simp] theorem State.halt_z (s : State) : s.halt.z = s.z := rfl
@[simp] theorem State.halt_c (s : State) : s.halt.c = s.c := rfl
@[simp] theorem State.halt_mem (s : State) : s.halt.mem = s.mem := rfl
@[simp] theorem State.halt_pc (s : State) : s.halt.pc = s.pc := rfl
@[simp] theorem State.halt_tick (s : State) : s.halt.tick = s.tick := rfl
@[simp] theorem State.halt_status (s : State) : s.halt.status = .halted := rfl
@[simp] theorem State.halt_steps (s : State) : s.halt.steps = s.steps := rfl
@[simp] theorem State.halt_contentStore (s : State) : s.halt.contentStore = s.contentStore := rfl
@[simp] theorem State.halt_drsStore (s : State) : s.halt.drsStore = s.drsStore := rfl
@[simp] theorem State.halt_history (s : State) : s.halt.history = s.history := rfl
@[simp] theorem State.halt_prog (s : State) : s.halt.prog = s.prog := rfl
@[simp] theorem State.halt_maxSteps (s : State) : s.halt.maxSteps = s.maxSteps := rfl
@[simp] theorem State.halt_memCap (s : State) : s.halt.memCap = s.memCap := rfl
@[simp] theorem State.halt_unfoldAnswers (s : State) : s.halt.unfoldAnswers = s.unfoldAnswers := rfl
@[simp] theorem State.halt_queryAnswers (s : State) : s.halt.queryAnswers = s.queryAnswers := rfl
@[simp] theorem State.halt_reg (s : State) (j : RegIdx) : s.halt.reg j = s.reg j := rfl
@[simp] theorem State.halt_cell (s : State) (b : Nat) : s.halt.cell b = s.cell b := rfl

/-! ### raise -/

@[simp] theorem State.raise_regs (s : State) (r : FaultReason) : (s.raise r).regs = s.regs := rfl
@[simp] theorem State.raise_z (s : State) (r : FaultReason) : (s.raise r).z = s.z := rfl
@[simp] theorem State.raise_c (s : State) (r : FaultReason) : (s.raise r).c = s.c := rfl
@[simp] theorem State.raise_mem (s : State) (r : FaultReason) : (s.raise r).mem = s.mem := rfl
@[simp] theorem State.raise_pc (s : State) (r : FaultReason) : (s.raise r).pc = s.pc := rfl
@[simp] theorem State.raise_tick (s : State) (r : FaultReason) : (s.raise r).tick = s.tick := rfl
@[simp] theorem State.raise_status (s : State) (r : FaultReason) : (s.raise r).status = .faulted r := rfl
@[simp] theorem State.raise_steps (s : State) (r : FaultReason) : (s.raise r).steps = s.steps := rfl
@[simp] theorem State.raise_contentStore (s : State) (r : FaultReason) : (s.raise r).contentStore = s.contentStore := rfl
@[simp] theorem State.raise_drsStore (s : State) (r : FaultReason) : (s.raise r).drsStore = s.drsStore := rfl
@[simp] theorem State.raise_history (s : State) (r : FaultReason) : (s.raise r).history = s.history := rfl
@[simp] theorem State.raise_prog (s : State) (r : FaultReason) : (s.raise r).prog = s.prog := rfl
@[simp] theorem State.raise_maxSteps (s : State) (r : FaultReason) : (s.raise r).maxSteps = s.maxSteps := rfl
@[simp] theorem State.raise_memCap (s : State) (r : FaultReason) : (s.raise r).memCap = s.memCap := rfl
@[simp] theorem State.raise_unfoldAnswers (s : State) (r : FaultReason) : (s.raise r).unfoldAnswers = s.unfoldAnswers := rfl
@[simp] theorem State.raise_queryAnswers (s : State) (r : FaultReason) : (s.raise r).queryAnswers = s.queryAnswers := rfl
@[simp] theorem State.raise_reg (s : State) (r : FaultReason) (j : RegIdx) : (s.raise r).reg j = s.reg j := rfl
@[simp] theorem State.raise_cell (s : State) (r : FaultReason) (b : Nat) : (s.raise r).cell b = s.cell b := rfl

/-! ### count -/

@[simp] theorem State.count_regs (s : State) : s.count.regs = s.regs := rfl
@[simp] theorem State.count_z (s : State) : s.count.z = s.z := rfl
@[simp] theorem State.count_c (s : State) : s.count.c = s.c := rfl
@[simp] theorem State.count_mem (s : State) : s.count.mem = s.mem := rfl
@[simp] theorem State.count_pc (s : State) : s.count.pc = s.pc := rfl
@[simp] theorem State.count_tick (s : State) : s.count.tick = s.tick + 1 := rfl
@[simp] theorem State.count_status (s : State) : s.count.status = s.status := rfl
@[simp] theorem State.count_steps (s : State) : s.count.steps = s.steps + 1 := rfl
@[simp] theorem State.count_contentStore (s : State) : s.count.contentStore = s.contentStore := rfl
@[simp] theorem State.count_drsStore (s : State) : s.count.drsStore = s.drsStore := rfl
@[simp] theorem State.count_history (s : State) : s.count.history = s.history := rfl
@[simp] theorem State.count_prog (s : State) : s.count.prog = s.prog := rfl
@[simp] theorem State.count_maxSteps (s : State) : s.count.maxSteps = s.maxSteps := rfl
@[simp] theorem State.count_memCap (s : State) : s.count.memCap = s.memCap := rfl
@[simp] theorem State.count_unfoldAnswers (s : State) : s.count.unfoldAnswers = s.unfoldAnswers := rfl
@[simp] theorem State.count_queryAnswers (s : State) : s.count.queryAnswers = s.queryAnswers := rfl
@[simp] theorem State.count_reg (s : State) (j : RegIdx) : s.count.reg j = s.reg j := rfl
@[simp] theorem State.count_cell (s : State) (b : Nat) : s.count.cell b = s.cell b := rfl

/-! ### record -/

@[simp] theorem State.record_regs (s : State) (e : PortEvent) : (s.record e).regs = s.regs := rfl
@[simp] theorem State.record_z (s : State) (e : PortEvent) : (s.record e).z = s.z := rfl
@[simp] theorem State.record_c (s : State) (e : PortEvent) : (s.record e).c = s.c := rfl
@[simp] theorem State.record_mem (s : State) (e : PortEvent) : (s.record e).mem = s.mem := rfl
@[simp] theorem State.record_pc (s : State) (e : PortEvent) : (s.record e).pc = s.pc := rfl
@[simp] theorem State.record_tick (s : State) (e : PortEvent) : (s.record e).tick = s.tick := rfl
@[simp] theorem State.record_status (s : State) (e : PortEvent) : (s.record e).status = s.status := rfl
@[simp] theorem State.record_steps (s : State) (e : PortEvent) : (s.record e).steps = s.steps := rfl
@[simp] theorem State.record_contentStore (s : State) (e : PortEvent) : (s.record e).contentStore = s.contentStore := rfl
@[simp] theorem State.record_drsStore (s : State) (e : PortEvent) : (s.record e).drsStore = s.drsStore := rfl
@[simp] theorem State.record_history (s : State) (e : PortEvent) : (s.record e).history = s.history ++ [e] := rfl
@[simp] theorem State.record_prog (s : State) (e : PortEvent) : (s.record e).prog = s.prog := rfl
@[simp] theorem State.record_maxSteps (s : State) (e : PortEvent) : (s.record e).maxSteps = s.maxSteps := rfl
@[simp] theorem State.record_memCap (s : State) (e : PortEvent) : (s.record e).memCap = s.memCap := rfl
@[simp] theorem State.record_unfoldAnswers (s : State) (e : PortEvent) : (s.record e).unfoldAnswers = s.unfoldAnswers := rfl
@[simp] theorem State.record_queryAnswers (s : State) (e : PortEvent) : (s.record e).queryAnswers = s.queryAnswers := rfl
@[simp] theorem State.record_reg (s : State) (e : PortEvent) (j : RegIdx) : (s.record e).reg j = s.reg j := rfl
@[simp] theorem State.record_cell (s : State) (e : PortEvent) (b : Nat) : (s.record e).cell b = s.cell b := rfl

/-! ### requestUnfold -/

@[simp] theorem State.requestUnfold_regs (s : State) (d : IU) : (s.requestUnfold d).regs = s.regs := rfl
@[simp] theorem State.requestUnfold_z (s : State) (d : IU) : (s.requestUnfold d).z = s.z := rfl
@[simp] theorem State.requestUnfold_c (s : State) (d : IU) : (s.requestUnfold d).c = s.c := rfl
@[simp] theorem State.requestUnfold_mem (s : State) (d : IU) : (s.requestUnfold d).mem = s.mem := rfl
@[simp] theorem State.requestUnfold_pc (s : State) (d : IU) : (s.requestUnfold d).pc = s.pc := rfl
@[simp] theorem State.requestUnfold_tick (s : State) (d : IU) : (s.requestUnfold d).tick = s.tick := rfl
@[simp] theorem State.requestUnfold_status (s : State) (d : IU) : (s.requestUnfold d).status = s.status := rfl
@[simp] theorem State.requestUnfold_steps (s : State) (d : IU) : (s.requestUnfold d).steps = s.steps := rfl
@[simp] theorem State.requestUnfold_contentStore (s : State) (d : IU) : (s.requestUnfold d).contentStore = s.contentStore := rfl
@[simp] theorem State.requestUnfold_drsStore (s : State) (d : IU) : (s.requestUnfold d).drsStore = s.drsStore := rfl
@[simp] theorem State.requestUnfold_history (s : State) (d : IU) : (s.requestUnfold d).history = s.history ++ [.unfold d (s.unfoldAnswer d)] := rfl
@[simp] theorem State.requestUnfold_prog (s : State) (d : IU) : (s.requestUnfold d).prog = s.prog := rfl
@[simp] theorem State.requestUnfold_maxSteps (s : State) (d : IU) : (s.requestUnfold d).maxSteps = s.maxSteps := rfl
@[simp] theorem State.requestUnfold_memCap (s : State) (d : IU) : (s.requestUnfold d).memCap = s.memCap := rfl
@[simp] theorem State.requestUnfold_unfoldAnswers (s : State) (d : IU) : (s.requestUnfold d).unfoldAnswers = s.unfoldAnswers.tail := rfl
@[simp] theorem State.requestUnfold_queryAnswers (s : State) (d : IU) : (s.requestUnfold d).queryAnswers = s.queryAnswers := rfl
@[simp] theorem State.requestUnfold_reg (s : State) (d : IU) (j : RegIdx) : (s.requestUnfold d).reg j = s.reg j := rfl
@[simp] theorem State.requestUnfold_cell (s : State) (d : IU) (b : Nat) : (s.requestUnfold d).cell b = s.cell b := rfl

/-! ### requestQuery -/

@[simp] theorem State.requestQuery_regs (s : State) (e : PortEvent) : (s.requestQuery e).regs = s.regs := rfl
@[simp] theorem State.requestQuery_z (s : State) (e : PortEvent) : (s.requestQuery e).z = s.z := rfl
@[simp] theorem State.requestQuery_c (s : State) (e : PortEvent) : (s.requestQuery e).c = s.c := rfl
@[simp] theorem State.requestQuery_mem (s : State) (e : PortEvent) : (s.requestQuery e).mem = s.mem := rfl
@[simp] theorem State.requestQuery_pc (s : State) (e : PortEvent) : (s.requestQuery e).pc = s.pc := rfl
@[simp] theorem State.requestQuery_tick (s : State) (e : PortEvent) : (s.requestQuery e).tick = s.tick := rfl
@[simp] theorem State.requestQuery_status (s : State) (e : PortEvent) : (s.requestQuery e).status = s.status := rfl
@[simp] theorem State.requestQuery_steps (s : State) (e : PortEvent) : (s.requestQuery e).steps = s.steps := rfl
@[simp] theorem State.requestQuery_contentStore (s : State) (e : PortEvent) : (s.requestQuery e).contentStore = s.contentStore := rfl
@[simp] theorem State.requestQuery_drsStore (s : State) (e : PortEvent) : (s.requestQuery e).drsStore = s.drsStore := rfl
@[simp] theorem State.requestQuery_history (s : State) (e : PortEvent) : (s.requestQuery e).history = s.history ++ [e] := rfl
@[simp] theorem State.requestQuery_prog (s : State) (e : PortEvent) : (s.requestQuery e).prog = s.prog := rfl
@[simp] theorem State.requestQuery_maxSteps (s : State) (e : PortEvent) : (s.requestQuery e).maxSteps = s.maxSteps := rfl
@[simp] theorem State.requestQuery_memCap (s : State) (e : PortEvent) : (s.requestQuery e).memCap = s.memCap := rfl
@[simp] theorem State.requestQuery_unfoldAnswers (s : State) (e : PortEvent) : (s.requestQuery e).unfoldAnswers = s.unfoldAnswers := rfl
@[simp] theorem State.requestQuery_queryAnswers (s : State) (e : PortEvent) : (s.requestQuery e).queryAnswers = s.queryAnswers.tail := rfl
@[simp] theorem State.requestQuery_reg (s : State) (e : PortEvent) (j : RegIdx) : (s.requestQuery e).reg j = s.reg j := rfl
@[simp] theorem State.requestQuery_cell (s : State) (e : PortEvent) (b : Nat) : (s.requestQuery e).cell b = s.cell b := rfl

end Sys2Proof.Machine
end

