-- ==== Sys2Proof/Laws/Ops.lean ====
section
/-! SUPPORT. For each shared operation, one lemma that says everything it can do. -/

namespace Sys2Proof

/-- A valid register index is one of four. -/
theorem RegIdx.valid_iff {i : RegIdx} : RegIdx.valid i = true ↔ i.toNat < 4 := by
  unfold RegIdx.valid Config.numRegisters
  exact decide_eq_true_iff

/-- An invalid register index is 4 or more. -/
theorem RegIdx.not_valid_iff {i : RegIdx} : RegIdx.valid i = false ↔ 4 ≤ i.toNat := by
  rw [← Bool.not_eq_true, RegIdx.valid_iff, Nat.not_lt]

end Sys2Proof

namespace Sys2Proof.Machine

/-! ### Registers -/

/-- A register written reads its value, where its index is valid. -/
theorem RegFile.get_set_same (f : RegFile) {i : RegIdx} (v : IU) (h : RegIdx.valid i = true) : (f.set i v).get i = v := by
  have hi := RegIdx.valid_iff.1 h
  unfold RegFile.set RegFile.get
  generalize i.toNat = n at hi
  match n, hi with
  | 0, _ => rfl
  | 1, _ => rfl
  | 2, _ => rfl
  | 3, _ => rfl

/-- A register not written reads as before. -/
theorem RegFile.get_set_other (f : RegFile) {i j : RegIdx} (v : IU) (h : j ≠ i) : (f.set i v).get j = f.get j := by
  have hn : j.toNat ≠ i.toNat := fun e => h (BitVec.eq_of_toNat_eq e)
  unfold RegFile.set RegFile.get
  generalize i.toNat = n at hn
  generalize j.toNat = k at hn
  split <;> (try split) <;> first | rfl | exact absurd rfl hn

theorem State.setReg_reg_same (s : State) {i : RegIdx} (v : IU) (h : RegIdx.valid i = true) : (s.setReg i v).reg i = v :=
  RegFile.get_set_same s.regs v h

theorem State.setReg_reg_other (s : State) {i j : RegIdx} (v : IU) (h : j ≠ i) : (s.setReg i v).reg j = s.reg j :=
  RegFile.get_set_other s.regs v h

/-! ### Memory and port through the state -/

theorem State.setCell_cell {s : State} (h : s.mem.wf = true) (a b : Nat) (v : IU) :
    (s.setCell a v).cell b = if b = a then v else s.cell b :=
  Memory.read_write h a b v

theorem State.setCells_cell_outside {s : State} (h : s.mem.wf = true) {a b : Nat} {vs : List IU}
    (hb : b < a ∨ a + vs.length ≤ b) : (s.setCells a vs).cell b = s.cell b :=
  Memory.read_writeMany_outside h hb

theorem State.setCells_cell_inside {s : State} (h : s.mem.wf = true) (a k : Nat) {vs : List IU} (hk : k < vs.length) :
    (s.setCells a vs).cell (a + k) = vs[k] :=
  Memory.read_writeMany_inside h a k hk

@[simp] theorem cellsOf_length (ts : List Triplet) : (cellsOf ts).length = 3 * ts.length := by
  induction ts with
  | nil => rfl
  | cons t ts ih => simp [cellsOf, ih]; omega

/-! ### The guard -/

/-- R75: an instruction passes the guard exactly when none of its registers is invalid and its signature is not empty. -/
theorem formFault_eq_none_iff (i : Instr) :
    i.formFault = none ↔ i.emptySignature = false ∧ ∀ r ∈ i.regs, RegIdx.valid r = true := by
  unfold Instr.formFault
  cases i.emptySignature <;> simp [List.find?_eq_none]

/-- The guard's fault, if there is one, is of an empty signature or of an invalid register that the instruction names. -/
theorem formFault_eq_some {i : Instr} {f : DecodeFault} (h : i.formFault = some f) :
    (i.emptySignature = true ∧ f = .malformedOperand)
      ∨ (i.emptySignature = false ∧ ∃ r ∈ i.regs, RegIdx.valid r = false ∧ f = .badRegister r) := by
  unfold Instr.formFault at h
  cases he : i.emptySignature with
  | true => simp_all
  | false =>
    simp only [he, Bool.false_eq_true, if_false, Option.map_eq_some_iff] at h
    obtain ⟨r, hr, rfl⟩ := h
    refine .inr ⟨rfl, r, List.mem_of_find?_eq_some hr, ?_, rfl⟩
    simpa using List.find?_some hr

/-- What the guard does: it takes the DecodeFault of the instruction, or lets it have its effect. -/
theorem State.checked_cases (i : Instr) (effect : State → State) (s : State) :
    (∃ f, i.formFault = some f ∧ s.checked i effect = .next (s.raise (.decodeFault f)))
      ∨ (i.formFault = none ∧ s.checked i effect = .next (effect s)) := by
  unfold State.checked
  cases h : i.formFault <;> simp

/-! ### Accesses and transfers -/

/-- What an access to an area does: it faults when the area is not empty and runs past the capacity, and goes on otherwise. -/
theorem State.withArea_cases (b n : Nat) (k : State → State) (s : State) :
    (0 < n ∧ s.memCap < b + n ∧ s.withArea b n k = s.raise (.addressFault (b + n - 1)))
      ∨ ((n = 0 ∨ b + n ≤ s.memCap) ∧ s.withArea b n k = k s) := by
  unfold State.withArea
  split
  · rename_i h; exact .inl ⟨h.1, h.2, rfl⟩
  · rename_i h; exact .inr ⟨by omega, rfl⟩

/-- What a transfer of control does: it goes to a valid target, and faults otherwise. -/
theorem State.transfer_cases (t : Index) (s : State) :
    (s.prog.length ≤ t.toNat ∧ s.transfer t = s.raise (.controlFault t))
      ∨ (t.toNat < s.prog.length ∧ s.transfer t = s.jumpTo t) := by
  unfold State.transfer
  split
  · rename_i h; exact .inl ⟨h, rfl⟩
  · rename_i h; exact .inr ⟨by omega, rfl⟩

/-- What the delivery of a response does: it is too long, or does not fit, or is written and counted. -/
theorem State.deliver_cases (rd : RegIdx) (b : Nat) (vs : List IU) (n : Nat) (s : State) :
    (4095 < n ∧ s.deliver rd b vs n = s.raise (.storeFault (.responseTooLong n)))
      ∨ (n ≤ 4095 ∧ 0 < vs.length ∧ s.memCap < b + vs.length
          ∧ s.deliver rd b vs n = s.raise (.addressFault (b + vs.length - 1)))
      ∨ (n ≤ 4095 ∧ (vs.length = 0 ∨ b + vs.length ≤ s.memCap)
          ∧ s.deliver rd b vs n = ((s.setCells b vs).setReg rd (BitVec.ofNat 12 n)).advance) := by
  unfold State.deliver Config.mask
  split
  · rename_i h; exact .inl ⟨h, rfl⟩
  · rename_i h
    rcases State.withArea_cases b vs.length (fun s => (s.setCells b vs).writeReg rd (BitVec.ofNat 12 n)) s with
      ⟨h1, h2, h3⟩ | ⟨h1, h3⟩
    · exact .inr (.inl ⟨by omega, h1, h2, h3⟩)
    · exact .inr (.inr ⟨by omega, h1, h3⟩)

/-- The fetch finds a word exactly where the program counter names an instruction. -/
theorem State.fetch_eq_none_iff (s : State) : s.fetch = none ↔ s.prog.length ≤ s.pc.toNat := by
  simp [State.fetch]

end Sys2Proof.Machine
end

