-- ==== Sys2Proof/Laws/PerInstr.lean ====
section
/-! SUPPORT. What is said of every instruction as syntax, one lemma for each constructor: the guard finds no fault exactly in a
well-formed instruction (spec/30_encoding.md R75). -/

namespace Sys2Proof

theorem Operand.regs_valid_iff (a : Operand) : (∀ r ∈ a.regs, RegIdx.valid r = true) ↔ a.valid = true := by
  cases a <;> simp [Operand.regs, Operand.valid]

theorem Addr.regs_valid_iff (a : Addr) : (∀ r ∈ a.regs, RegIdx.valid r = true) ↔ a.valid = true := by
  cases a <;> simp [Addr.regs, Addr.valid]

/-- The registers of two operands and of a destination are valid exactly when each is. -/
theorem regs_of_two_operands (rd : RegIdx) (a b : Operand) :
    (∀ r ∈ rd :: (a.regs ++ b.regs), RegIdx.valid r = true) ↔ (RegIdx.valid rd && a.valid && b.valid) = true := by
  simp only [List.forall_mem_cons, List.forall_mem_append, Operand.regs_valid_iff, Bool.and_eq_true, and_assoc]

theorem regs_of_one_operand (rd : RegIdx) (a : Operand) :
    (∀ r ∈ rd :: a.regs, RegIdx.valid r = true) ↔ (RegIdx.valid rd && a.valid) = true := by
  simp only [List.forall_mem_cons, Operand.regs_valid_iff, Bool.and_eq_true]

theorem regs_of_address (r1 : RegIdx) (addr : Addr) :
    (∀ r ∈ r1 :: addr.regs, RegIdx.valid r = true) ↔ (RegIdx.valid r1 && addr.valid) = true := by
  simp only [List.forall_mem_cons, Addr.regs_valid_iff, Bool.and_eq_true]

theorem regs_of_three (r1 r2 r3 : RegIdx) :
    (∀ r ∈ [r1, r2, r3], RegIdx.valid r = true)
      ↔ (RegIdx.valid r1 && RegIdx.valid r2 && RegIdx.valid r3) = true := by
  simp [and_assoc]

end Sys2Proof

/-- R75: the guard finds no fault exactly in a well-formed instruction. -/
def Sys2Proof.Laws.GuardAgrees.Statement (i : Sys2Proof.Instr) : Prop := i.formFault = none ↔ i.wf = true

open Sys2Proof Sys2Proof.Machine

theorem Sys2Proof.Laws.GuardAgrees.halt :
    Sys2Proof.Laws.GuardAgrees.Statement .halt :=
  iff_of_true rfl rfl

theorem Sys2Proof.Laws.GuardAgrees.add (rd : RegIdx) (a b : Operand) :
    Sys2Proof.Laws.GuardAgrees.Statement (.add rd a b) :=
  (formFault_eq_none_iff (.add rd a b)).trans ((and_iff_right rfl).trans (regs_of_two_operands rd a b))

theorem Sys2Proof.Laws.GuardAgrees.sub (rd : RegIdx) (a b : Operand) :
    Sys2Proof.Laws.GuardAgrees.Statement (.sub rd a b) :=
  (formFault_eq_none_iff (.sub rd a b)).trans ((and_iff_right rfl).trans (regs_of_two_operands rd a b))

theorem Sys2Proof.Laws.GuardAgrees.and (rd : RegIdx) (a b : Operand) :
    Sys2Proof.Laws.GuardAgrees.Statement (.and rd a b) :=
  (formFault_eq_none_iff (.and rd a b)).trans ((and_iff_right rfl).trans (regs_of_two_operands rd a b))

theorem Sys2Proof.Laws.GuardAgrees.or (rd : RegIdx) (a b : Operand) :
    Sys2Proof.Laws.GuardAgrees.Statement (.or rd a b) :=
  (formFault_eq_none_iff (.or rd a b)).trans ((and_iff_right rfl).trans (regs_of_two_operands rd a b))

theorem Sys2Proof.Laws.GuardAgrees.xor (rd : RegIdx) (a b : Operand) :
    Sys2Proof.Laws.GuardAgrees.Statement (.xor rd a b) :=
  (formFault_eq_none_iff (.xor rd a b)).trans ((and_iff_right rfl).trans (regs_of_two_operands rd a b))

theorem Sys2Proof.Laws.GuardAgrees.not (rd : RegIdx) (a : Operand) :
    Sys2Proof.Laws.GuardAgrees.Statement (.not rd a) :=
  (formFault_eq_none_iff (.not rd a)).trans ((and_iff_right rfl).trans (regs_of_one_operand rd a))

theorem Sys2Proof.Laws.GuardAgrees.shl (rd : RegIdx) (a b : Operand) :
    Sys2Proof.Laws.GuardAgrees.Statement (.shl rd a b) :=
  (formFault_eq_none_iff (.shl rd a b)).trans ((and_iff_right rfl).trans (regs_of_two_operands rd a b))

theorem Sys2Proof.Laws.GuardAgrees.shr (rd : RegIdx) (a b : Operand) :
    Sys2Proof.Laws.GuardAgrees.Statement (.shr rd a b) :=
  (formFault_eq_none_iff (.shr rd a b)).trans ((and_iff_right rfl).trans (regs_of_two_operands rd a b))

theorem Sys2Proof.Laws.GuardAgrees.sar (rd : RegIdx) (a b : Operand) :
    Sys2Proof.Laws.GuardAgrees.Statement (.sar rd a b) :=
  (formFault_eq_none_iff (.sar rd a b)).trans ((and_iff_right rfl).trans (regs_of_two_operands rd a b))

theorem Sys2Proof.Laws.GuardAgrees.rol (rd : RegIdx) (a b : Operand) :
    Sys2Proof.Laws.GuardAgrees.Statement (.rol rd a b) :=
  (formFault_eq_none_iff (.rol rd a b)).trans ((and_iff_right rfl).trans (regs_of_two_operands rd a b))

theorem Sys2Proof.Laws.GuardAgrees.loadk (rd : RegIdx) (v : IU) :
    Sys2Proof.Laws.GuardAgrees.Statement (.loadk rd v) :=
  (formFault_eq_none_iff (.loadk rd v)).trans (by simp [Instr.emptySignature, Instr.regs, Instr.wf])

theorem Sys2Proof.Laws.GuardAgrees.mov (rd rs : RegIdx) :
    Sys2Proof.Laws.GuardAgrees.Statement (.mov rd rs) :=
  (formFault_eq_none_iff (.mov rd rs)).trans (by simp [Instr.emptySignature, Instr.regs, Instr.wf])

theorem Sys2Proof.Laws.GuardAgrees.load (r : RegIdx) (addr : Addr) :
    Sys2Proof.Laws.GuardAgrees.Statement (.load r addr) :=
  (formFault_eq_none_iff (.load r addr)).trans ((and_iff_right rfl).trans (regs_of_address r addr))

theorem Sys2Proof.Laws.GuardAgrees.store (r : RegIdx) (addr : Addr) :
    Sys2Proof.Laws.GuardAgrees.Statement (.store r addr) :=
  (formFault_eq_none_iff (.store r addr)).trans ((and_iff_right rfl).trans (regs_of_address r addr))

theorem Sys2Proof.Laws.GuardAgrees.jump (t : Index) :
    Sys2Proof.Laws.GuardAgrees.Statement (.jump t) :=
  iff_of_true rfl rfl

theorem Sys2Proof.Laws.GuardAgrees.jumpif (cond : Cond) (t : Index) :
    Sys2Proof.Laws.GuardAgrees.Statement (.jumpif cond t) :=
  iff_of_true rfl rfl

theorem Sys2Proof.Laws.GuardAgrees.apply (rd : RegIdx) (rule : RuleId) :
    Sys2Proof.Laws.GuardAgrees.Statement (.apply rd rule) :=
  (formFault_eq_none_iff (.apply rd rule)).trans (by simp [Instr.emptySignature, Instr.regs, Instr.wf])

theorem Sys2Proof.Laws.GuardAgrees.enfold (r1 r2 r3 : RegIdx) :
    Sys2Proof.Laws.GuardAgrees.Statement (.enfold r1 r2 r3) :=
  (formFault_eq_none_iff (.enfold r1 r2 r3)).trans ((and_iff_right rfl).trans (regs_of_three r1 r2 r3))

theorem Sys2Proof.Laws.GuardAgrees.unfold (r1 r2 r3 : RegIdx) :
    Sys2Proof.Laws.GuardAgrees.Statement (.unfold r1 r2 r3) :=
  (formFault_eq_none_iff (.unfold r1 r2 r3)).trans ((and_iff_right rfl).trans (regs_of_three r1 r2 r3))

theorem Sys2Proof.Laws.GuardAgrees.drsins (r1 r2 r3 : RegIdx) :
    Sys2Proof.Laws.GuardAgrees.Statement (.drsins r1 r2 r3) :=
  (formFault_eq_none_iff (.drsins r1 r2 r3)).trans ((and_iff_right rfl).trans (regs_of_three r1 r2 r3))

theorem Sys2Proof.Laws.GuardAgrees.drsqe (r1 r2 r3 : RegIdx) (mask : Mask3) :
    Sys2Proof.Laws.GuardAgrees.Statement (.drsqe r1 r2 r3 mask) :=
  (formFault_eq_none_iff (.drsqe r1 r2 r3 mask)).trans ((and_iff_right rfl).trans (regs_of_three r1 r2 r3))

theorem Sys2Proof.Laws.GuardAgrees.drsqb (r1 r2 r3 : RegIdx) (mask : Mask3) :
    Sys2Proof.Laws.GuardAgrees.Statement (.drsqb r1 r2 r3 mask) :=
  (formFault_eq_none_iff (.drsqb r1 r2 r3 mask)).trans (by
    have h := regs_of_three r1 r2 r3
    simp only [Instr.emptySignature, Instr.regs, Instr.wf, Bool.and_eq_true, bne_iff_ne, beq_eq_false_iff_ne] at h ⊢
    rw [h, and_comm])
end

