-- ==== Sys2Proof/Laws/Exec.lean ====
section
/-! SUPPORT. Once over all instructions, what executing one can do; once over all states, what a step can do. Later proofs cite
these and do not unfold the machine. -/

namespace Sys2Proof

/-- R75: the guard finds no fault exactly in a well-formed instruction. -/
theorem formFault_eq_none_iff_wf (i : Instr) : i.formFault = none ↔ i.wf = true := by
  cases i with
  | halt => exact Laws.GuardAgrees.halt
  | add rd a b => exact Laws.GuardAgrees.add rd a b
  | sub rd a b => exact Laws.GuardAgrees.sub rd a b
  | and rd a b => exact Laws.GuardAgrees.and rd a b
  | or rd a b => exact Laws.GuardAgrees.or rd a b
  | xor rd a b => exact Laws.GuardAgrees.xor rd a b
  | not rd a => exact Laws.GuardAgrees.not rd a
  | shl rd a b => exact Laws.GuardAgrees.shl rd a b
  | shr rd a b => exact Laws.GuardAgrees.shr rd a b
  | sar rd a b => exact Laws.GuardAgrees.sar rd a b
  | rol rd a b => exact Laws.GuardAgrees.rol rd a b
  | loadk rd v => exact Laws.GuardAgrees.loadk rd v
  | mov rd rs => exact Laws.GuardAgrees.mov rd rs
  | load rd addr => exact Laws.GuardAgrees.load rd addr
  | store rs addr => exact Laws.GuardAgrees.store rs addr
  | jump t => exact Laws.GuardAgrees.jump t
  | jumpif cond t => exact Laws.GuardAgrees.jumpif cond t
  | apply rd rule => exact Laws.GuardAgrees.apply rd rule
  | enfold rd ra rn => exact Laws.GuardAgrees.enfold rd ra rn
  | unfold rd ra rs => exact Laws.GuardAgrees.unfold rd ra rs
  | drsins rs rr ro => exact Laws.GuardAgrees.drsins rs rr ro
  | drsqe rd ra rb mask => exact Laws.GuardAgrees.drsqe rd ra rb mask
  | drsqb rd ra rb mask => exact Laws.GuardAgrees.drsqb rd ra rb mask

/-- R75: what the decoder reads is well formed. -/
theorem wf_of_decode {w : Word36} {i : Instr} (h : decode w = .ok i) : i.wf = true := by
  unfold decode at h
  split at h
  · cases h
  · split at h
    · split at h
      · cases h
      · rename_i hf
        cases h
        exact (formFault_eq_none_iff_wf _).1 hf
    · cases h

end Sys2Proof

namespace Sys2Proof.Machine

/-- A well-formed instruction passes the guard and has its effect. -/
theorem State.checked_of_wf {i : Instr} (h : i.wf = true) (effect : State → State) (s : State) :
    s.checked i effect = .next (effect s) := by
  rw [State.checked, (formFault_eq_none_iff_wf i).2 h]

/-- Every instruction is its guard and an effect, so executing it answers a next state. -/
theorem exec_eq_checked (i : Instr) (s : State) : ∃ effect : State → State, exec i s = s.checked i effect := by
  cases i with
  | jumpif cond t => exact ⟨fun s => if s.holds cond then s.transfer t else s.advance, rfl⟩
  | unfold rd ra rs =>
    exact ⟨fun s =>
      match s.unfoldAnswer (s.reg rs) with
      | .notFound => (s.requestUnfold (s.reg rs)).raise (.storeFault (.notFound (s.reg rs)))
      | .sequence seq => (s.requestUnfold (s.reg rs)).deliver rd (s.reg ra).toNat seq seq.length, rfl⟩
  | drsins rs rr ro => exact ⟨fun s => (s.record (.insert ⟨s.reg rs, s.reg rr, s.reg ro⟩)).advance, rfl⟩
  | _ => exact ⟨_, rfl⟩

/-- What executing an instruction can do: `Effect i s t` lists, shape by shape, every next state `t`. -/
inductive Effect : Instr → State → State → Prop where
  /-- The guard's DecodeFault, of an instruction that is not well formed. -/
  | guardFault (i s f) (hw : i.wf = false) : Effect i s (s.raise (.decodeFault f))
  /-- An ALU-class instruction. -/
  | alu (i s rd r) (hd : i.destination = some rd) (ha : i.aluClass = true) : Effect i s (s.writeAlu rd r)
  /-- LOADK, MOV, LOAD, APPLY: one register written. -/
  | register (i s rd v) (hd : i.destination = some rd) (ha : i.aluClass = false) : Effect i s (s.writeReg rd v)
  /-- HALT. -/
  | halt (s) : Effect .halt s s.halt
  /-- An access past the memory, before anything else is done. -/
  | addressFault (i s a) (ha : i.aluClass = false) (hm : s.memCap ≤ a) : Effect i s (s.raise (.addressFault a))
  /-- STORE. -/
  | store (s rs addr) (hm : s.address addr < s.memCap) :
      Effect (.store rs addr) s ((s.setCell (s.address addr) (s.reg rs)).advance)
  /-- JUMP, or a JUMPIF taken. -/
  | jump (i s t) (ha : i.aluClass = false) (ht : t.toNat < s.prog.length) : Effect i s (s.jumpTo t)
  /-- JUMP, or a JUMPIF taken, to no instruction. -/
  | controlFault (i s t) (ha : i.aluClass = false) (ht : s.prog.length ≤ t.toNat) : Effect i s (s.raise (.controlFault t))
  /-- A JUMPIF not taken. -/
  | notTaken (s cond t) : Effect (.jumpif cond t) s s.advance
  /-- ENFOLD. -/
  | enfold (s rd ra rn e d) : Effect (.enfold rd ra rn) s ((s.record e).writeReg rd d)
  /-- UNFOLD of a digest that is not known. -/
  | notFound (s rd ra rs) (hu : s.unfoldAnswer (s.reg rs) = .notFound) :
      Effect (.unfold rd ra rs) s ((s.requestUnfold (s.reg rs)).raise (.storeFault (.notFound (s.reg rs))))
  /-- UNFOLD of a digest that is known: its response is delivered (`State.deliver_cases`). -/
  | unfold (s rd ra rs b vs n) : Effect (.unfold rd ra rs) s ((s.requestUnfold (s.reg rs)).deliver rd b vs n)
  /-- DRSINS. -/
  | insert (s rs rr ro e) : Effect (.drsins rs rr ro) s (s.record e).advance
  /-- DRSQE: its response is delivered. -/
  | queryExact (s rd ra rb mask e b vs n) : Effect (.drsqe rd ra rb mask) s ((s.requestQuery e).deliver rd b vs n)
  /-- DRSQB: its response is delivered. -/
  | queryByBasin (s rd ra rb mask e b vs n) : Effect (.drsqb rd ra rb mask) s ((s.requestQuery e).deliver rd b vs n)

/-- The next state of an instruction is one of its effects. -/
theorem effect_of_exec {i : Instr} {s t : State} (h : exec i s = .next t) : Effect i s t := by
  cases hw : i.wf with
  | false =>
    obtain ⟨effect, he⟩ := exec_eq_checked i s
    rcases State.checked_cases i effect s with ⟨f, -, h2⟩ | ⟨h1, -⟩
    · rw [he, h2] at h; cases h; exact .guardFault _ _ _ hw
    · rw [(formFault_eq_none_iff_wf i).1 h1] at hw; cases hw
  | true =>
    cases i with
    | halt => rw [exec, execHalt, State.checked_of_wf hw] at h; cases h; exact .halt _
    | add => rw [exec, execAdd, State.checked_of_wf hw] at h; cases h; exact .alu _ _ _ _ rfl rfl
    | sub => rw [exec, execSub, State.checked_of_wf hw] at h; cases h; exact .alu _ _ _ _ rfl rfl
    | and => rw [exec, execAnd, State.checked_of_wf hw] at h; cases h; exact .alu _ _ _ _ rfl rfl
    | or => rw [exec, execOr, State.checked_of_wf hw] at h; cases h; exact .alu _ _ _ _ rfl rfl
    | xor => rw [exec, execXor, State.checked_of_wf hw] at h; cases h; exact .alu _ _ _ _ rfl rfl
    | not => rw [exec, execNot, State.checked_of_wf hw] at h; cases h; exact .alu _ _ _ _ rfl rfl
    | shl => rw [exec, execShl, State.checked_of_wf hw] at h; cases h; exact .alu _ _ _ _ rfl rfl
    | shr => rw [exec, execShr, State.checked_of_wf hw] at h; cases h; exact .alu _ _ _ _ rfl rfl
    | sar => rw [exec, execSar, State.checked_of_wf hw] at h; cases h; exact .alu _ _ _ _ rfl rfl
    | rol => rw [exec, execRol, State.checked_of_wf hw] at h; cases h; exact .alu _ _ _ _ rfl rfl
    | loadk => rw [exec, execLoadk, State.checked_of_wf hw] at h; cases h; exact .register _ _ _ _ rfl rfl
    | mov => rw [exec, execMov, State.checked_of_wf hw] at h; cases h; exact .register _ _ _ _ rfl rfl
    | apply => rw [exec, execApply, State.checked_of_wf hw] at h; cases h; exact .register _ _ _ _ rfl rfl
    | drsins => rw [exec, execDrsins, State.checked_of_wf hw] at h; cases h; exact .insert ..
    | load rd addr =>
      rw [exec, execLoad, State.checked_of_wf hw, State.withArea] at h
      cases h
      split
      · exact .addressFault _ _ _ rfl (by omega)
      · exact .register _ _ _ _ rfl rfl
    | store rs addr =>
      rw [exec, execStore, State.checked_of_wf hw, State.withArea] at h
      cases h
      split
      · exact .addressFault _ _ _ rfl (by omega)
      · exact .store _ _ _ (by omega)
    | jump t =>
      rw [exec, execJump, State.checked_of_wf hw, State.transfer] at h
      cases h
      split
      · exact .controlFault _ _ _ rfl ‹_›
      · exact .jump _ _ _ rfl (by omega)
    | jumpif cond t =>
      rw [exec, execJumpif, State.checked_of_wf hw, State.transfer] at h
      cases h
      split
      · split
        · exact .controlFault _ _ _ rfl ‹_›
        · exact .jump _ _ _ rfl (by omega)
      · exact .notTaken ..
    | enfold =>
      rw [exec, execEnfold, State.checked_of_wf hw, State.withArea] at h
      cases h
      split
      · exact .addressFault _ _ _ rfl (by omega)
      · exact .enfold ..
    | unfold =>
      rw [exec, execUnfold, State.checked_of_wf hw] at h
      cases h
      split
      · exact .notFound _ _ _ _ ‹_›
      · exact .unfold ..
    | drsqe =>
      rw [exec, execDrsqe, State.checked_of_wf hw, State.withArea] at h
      cases h
      split
      · exact .addressFault _ _ _ rfl (by omega)
      · exact .queryExact ..
    | drsqb =>
      rw [exec, execDrsqb, State.checked_of_wf hw, State.withArea] at h
      cases h
      split
      · exact .addressFault _ _ _ rfl (by omega)
      · exact .queryByBasin ..

/-- What a step of a running machine can do: `RunningStep s t` lists, in the order of R171, every next state `t`. -/
inductive RunningStep : State → State → Prop where
  /-- R172: past the end of the program. -/
  | past (s) (hp : s.prog.length ≤ s.pc.toNat) : RunningStep s s.halt
  /-- R174: at the step limit. -/
  | limit (s) (hp : s.pc.toNat < s.prog.length) (hl : s.maxSteps ≤ s.steps) : RunningStep s (s.raise .resourceExhausted)
  /-- R71: a word that does not decode. -/
  | undecodable (s w f) (hp : s.pc.toNat < s.prog.length) (hl : s.steps < s.maxSteps) (hd : decode w = .error f) :
      RunningStep s (s.count.raise (.decodeFault f))
  /-- An instruction, well formed, executed with the counters advanced. -/
  | instruction (s t w i) (hp : s.pc.toNat < s.prog.length) (hl : s.steps < s.maxSteps) (hd : decode w = .ok i)
      (hw : i.wf = true) (he : Effect i s.count t) : RunningStep s t

/-- The next state of a step of a running machine is one of those. -/
theorem runningStep_of_step {s t : State} (hr : s.status = .running) (h : step s = .next t) : RunningStep s t := by
  simp only [step, engineStep, hr, stepRunning] at h
  split at h
  · rename_i hf
    cases h
    exact .past _ ((State.fetch_eq_none_iff s).1 hf)
  · rename_i w hf
    have hp : s.pc.toNat < s.prog.length := by
      by_contra hc
      rw [(State.fetch_eq_none_iff s).2 (by omega)] at hf
      cases hf
    split at h
    · cases h
      exact .limit _ hp ‹_›
    · split at h
      · cases h
        exact .undecodable s _ _ hp (by omega) ‹_›
      · rename_i hd
        exact .instruction s t w _ hp (by omega) hd (wf_of_decode hd) (effect_of_exec h)

end Sys2Proof.Machine
end

