-- ==== Sys2Proof/Laws/Run.lean ====
section
/-! SUPPORT. What the host gets back from a run: the fields reported, and the one thing `runScenario` can answer. -/

namespace Sys2Proof.Machine

@[simp] theorem State.reported_regs (s : State) : s.reported.finalState.regs = s.regs := rfl
@[simp] theorem State.reported_z (s : State) : s.reported.finalState.z = s.z := rfl
@[simp] theorem State.reported_c (s : State) : s.reported.finalState.c = s.c := rfl
@[simp] theorem State.reported_mem (s : State) : s.reported.finalState.mem = s.mem := rfl
@[simp] theorem State.reported_pc (s : State) : s.reported.finalState.pc = s.pc := rfl
@[simp] theorem State.reported_tick (s : State) : s.reported.finalState.tick = s.tick := rfl
@[simp] theorem State.reported_contentStore (s : State) : s.reported.finalState.contentStore = s.contentStore := rfl
@[simp] theorem State.reported_drsStore (s : State) : s.reported.finalState.drsStore = s.drsStore := rfl
@[simp] theorem State.reported_outcome (s : State) : s.reported.outcome = s.status := rfl

/-- A run answers a result exactly where it comes to an end, and the result is what is reported of the state there. -/
theorem runScenario_next_iff {prog : List Word36} {s0 : State} {n : Int} {r : RunResult} :
    runScenario prog s0 n = .next r ↔ ∃ t, runToEnd prog s0 n = .next t ∧ r = t.reported := by
  unfold runScenario
  cases runToEnd prog s0 n with
  | next t => simp [eq_comm]
  | fault f => exact nomatch f
  | refused e => simp

end Sys2Proof.Machine
end

