-- ==== Sys2Proof/Tests/Slice0.lean ====
section
/-! SUPPORT. The model's own tests. The words and the expected values are those of spec/30_encoding.md R77, R78 and
spec/95_test_vectors.md ("V<n>"), or are worked out by hand from the rule named; then, for each statement with hypotheses, a
state and operands that meet them. -/

namespace Sys2Proof.Tests

open Sys2Proof Sys2Proof.Machine

/-! ### Helpers -/

/-- A state with these registers and cells, both flags as given, otherwise as at reset. -/
def start (r0 r1 r2 r3 : IU) (z c : Bool) (mem : Memory) : State :=
  { State.reset with regs := ⟨r0, r1, r2, r3⟩, z := z, c := c, mem := mem }

/-- What an outcome answers, a next state or the result of a run, if it is neither a fault nor a refusal. -/
def after {α : Type} (o : Host.Outcome α Fault Refusal) : Option α :=
  match o with
  | .next t => some t
  | .fault _ => none
  | .refused _ => none

/-- The state after one step at a state whose next instruction is the word `w`. -/
def ran (s : State) (w : Nat) : State :=
  match step (s.withFetchWord 40 w) with
  | .next t => t
  | .fault _ => s
  | .refused _ => s

/-- What the tests of ALU-class instructions look at. -/
def alu (t : State) : IU × Bool × Bool × Index × Nat := (t.reg 1, t.z, t.c, t.pc, t.tick)

/-- The state after a step, with the program counter, the tick and the status. -/
def ended (t : State) : Index × Nat × Status := (t.pc, t.tick, t.status)

/-! ### Well-formedness: one ill-formed term for each check -/

theorem test_wf_refuses_header_register : (Instr.add 4 (.reg 0) (.reg 0)).wf = false := by decide
theorem test_wf_refuses_operand_a_register : (Instr.sub 0 (.reg 4) (.imm 0)).wf = false := by decide
theorem test_wf_refuses_operand_b_register : (Instr.rol 0 (.imm 0) (.reg 15)).wf = false := by decide
theorem test_wf_refuses_mov_source : (Instr.mov 0 4).wf = false := by decide
theorem test_wf_refuses_address_register : (Instr.store 0 (.ind 4)).wf = false := by decide
theorem test_wf_refuses_second_register_of_c3 : (Instr.enfold 0 4 0).wf = false := by decide
theorem test_wf_refuses_third_register_of_q : (Instr.drsqe 0 0 4 0).wf = false := by decide
theorem test_wf_refuses_empty_signature : (Instr.drsqb 0 0 0 0).wf = false := by decide
theorem test_wf_accepts_greatest_register : (Instr.drsqb 3 3 3 1).wf = true := by decide

/-! ### Decoding: every constructor, from a word written out from the spec's encoding -/

theorem test_decode_halt : decode 0x000000000 = .ok .halt := by decide
theorem test_decode_add : decode 0x08EFFF001 = .ok (.add 1 (.imm 0xFFF) (.imm 1)) := by decide
theorem test_decode_add_registers : decode 0x080000001 = .ok (.add 0 (.reg 0) (.reg 1)) := by decide
theorem test_decode_sub : decode 0x112002001 = .ok (.sub 2 (.reg 2) (.imm 1)) := by decide
theorem test_decode_and : decode 0x18EF0F0FF = .ok (.and 1 (.imm 0xF0F) (.imm 0x0FF)) := by decide
theorem test_decode_or : decode 0x21A001000 = .ok (.or 3 (.reg 1) (.imm 0)) := by decide
theorem test_decode_xor : decode 0x298003003 = .ok (.xor 3 (.reg 3) (.reg 3)) := by decide
theorem test_decode_not : decode 0x308002000 = .ok (.not 1 (.reg 2)) := by decide
theorem test_decode_shl : decode 0x382000001 = .ok (.shl 0 (.reg 0) (.imm 1)) := by decide
theorem test_decode_shr : decode 0x40A001001 = .ok (.shr 1 (.reg 1) (.imm 1)) := by decide
theorem test_decode_sar : decode 0x48E800FFF = .ok (.sar 1 (.imm 0x800) (.imm 4095)) := by decide
theorem test_decode_rol : decode 0x50E801001 = .ok (.rol 1 (.imm 0x801) (.imm 1)) := by decide
theorem test_decode_loadk : decode 0x58C100000 = .ok (.loadk 1 256) := by decide
theorem test_decode_mov : decode 0x618000000 = .ok (.mov 3 0) := by decide
theorem test_decode_load_indirect : decode 0x698001000 = .ok (.load 3 (.ind 1)) := by decide
theorem test_decode_load_absolute : decode 0x684FFFFFF = .ok (.load 0 (.abs 0xFFFFFF)) := by decide
theorem test_decode_store : decode 0x704000010 = .ok (.store 0 (.abs 0x10)) := by decide
theorem test_decode_jump : decode 0x780000003 = .ok (.jump 3) := by decide
theorem test_decode_jumpif :
    [decode 0x800000005, decode 0x820000005, decode 0x840000005, decode 0x860000005]
      = [.ok (.jumpif .z 5), .ok (.jumpif .nz 5), .ok (.jumpif .c 5), .ok (.jumpif .nc 5)] := by decide
theorem test_decode_apply : decode 0x890007000 = .ok (.apply 2 7) := by decide
theorem test_decode_enfold : decode 0x900001002 = .ok (.enfold 0 1 2) := by decide
theorem test_decode_unfold : decode 0x980001003 = .ok (.unfold 0 1 3) := by decide
theorem test_decode_drsins : decode 0xA00001002 = .ok (.drsins 0 1 2) := by decide
theorem test_decode_drsqe : decode 0xA85001002 = .ok (.drsqe 0 1 2 0b101) := by decide
theorem test_decode_drsqb : decode 0xB01001002 = .ok (.drsqb 0 1 2 0b001) := by decide

/-- V87 to V107: the words that do not decode, each with its fault. -/
theorem test_decode_faults :
    ([0xB80000000, 0xFFFFFFFFF, 0x000000001, 0x081000001, 0x0A9005006, 0x588001000, 0x61C000000, 0x30A002000,
      0x308002001, 0x080000010, 0x080010001, 0x698001001, 0x808000000, 0x7A0000000, 0x881000000, 0x890007001,
      0xB00001002, 0x0A0005006, 0x0C0000000, 0x700004000, 0x900001004] : List Word36).map decode
    = [.error (.illegalOpcode 0x17), .error (.illegalOpcode 0x1F), .error .malformedOperand, .error .malformedOperand,
      .error .malformedOperand, .error .malformedOperand, .error .malformedOperand, .error .malformedOperand,
      .error .malformedOperand, .error .malformedOperand, .error .malformedOperand, .error .malformedOperand,
      .error .malformedOperand, .error .malformedOperand, .error .malformedOperand, .error .malformedOperand,
      .error .malformedOperand, .error (.badRegister 4), .error (.badRegister 8), .error (.badRegister 4),
      .error (.badRegister 4)] := by decide

/-- R265: the image of a word is five bytes, most significant first. -/
theorem test_image_of_a_word : programOfImage [0x0A, 0x85, 0x00, 0x10, 0x02] = some [0xA85001002] := by decide

/-! ### One step of each ALU-class instruction -/

theorem test_add_wraps : alu (ran State.reset 0x08EFFF001) = (0x000, true, true, 1, 1) := by decide -- V2
theorem test_add_reads_before_it_writes : -- V61
    (ran (start 0x801 0 0 0 true false []) 0x080000000).reg 0 = 0x002 := by decide
theorem test_sub_borrows : alu (ran State.reset 0x10E003005) = (0xFFE, false, false, 1, 1) := by decide -- V8
theorem test_sub_of_zero_sets_carry : alu (ran State.reset 0x10E005000) = (0x005, false, true, 1, 1) := by decide -- V10
theorem test_and : alu (ran (start 0 0 0 0 true true []) 0x18EF0F0FF) = (0x00F, false, false, 1, 1) := by decide -- V16
theorem test_or : alu (ran (start 0 0 0 0 true true []) 0x20EF0000F) = (0xF0F, false, false, 1, 1) := by decide -- V19
theorem test_xor : alu (ran (start 0 0 0 0 true true []) 0x28EAAA555) = (0xFFF, false, false, 1, 1) := by decide -- V23
theorem test_not : alu (ran (start 0 0 0 0 true true []) 0x30C5A5000) = (0xA5A, false, false, 1, 1) := by decide -- V26
theorem test_shl_by_12 : alu (ran (start 0 0 0 0 true true []) 0x38E80100C) = (0x000, true, true, 1, 1) := by decide -- V30
theorem test_shl_by_13 : alu (ran (start 0 0 0 0 true true []) 0x38E80100D) = (0x000, true, false, 1, 1) := by decide -- V31
theorem test_shr_by_1 : alu (ran (start 0 0 0 0 true true []) 0x40E801001) = (0x400, false, true, 1, 1) := by decide -- V35
theorem test_shr_by_0 : alu (ran (start 0 0 0 0 true true []) 0x40E801000) = (0x801, false, false, 1, 1) := by decide -- V34
theorem test_sar_by_12 : alu (ran (start 0 0 0 0 true true []) 0x48E80000C) = (0xFFF, false, true, 1, 1) := by decide -- V43
theorem test_sar_by_11 : alu (ran (start 0 0 0 0 true true []) 0x48E7FF00B) = (0x000, true, true, 1, 1) := by decide -- V47
theorem test_rol_by_13 : alu (ran (start 0 0 0 0 true true []) 0x50E80100D) = (0x003, false, false, 1, 1) := by decide -- V54
theorem test_rol_by_4 : alu (ran (start 0 0 0 0 true true []) 0x50E123004) = (0x231, false, false, 1, 1) := by decide -- V57
theorem test_loadk : alu (ran (start 0 0 0 0 true true []) 0x58CFFF000) = (0xFFF, true, true, 1, 1) := by decide -- V59
theorem test_mov : alu (ran (start 7 0 0 0 true true []) 0x608000000) = (0x007, true, true, 1, 1) := by decide -- V60

/-! ### Loads, stores and control -/

theorem test_load_indirect : alu (ran (start 0 3 0 0 true false [(3, 0x777)]) 0x688001000) = (0x777, true, false, 1, 1) := by
  decide -- V70
theorem test_load_past_memory : -- V69
    ended (ran (start 9 0 256 0 true false []) 0x680002000) = (0, 1, .faulted (.addressFault 256)) := by decide
theorem test_store_indirect : (ran (start 0 200 0 0 true false []) 0x708001000).mem = [(200, 200)] := by decide -- V73
theorem test_store_past_memory : -- V74
    ran (start 5 0 0 4095 true false []) 0x700003000
      = ((start 5 0 0 4095 true false []).withFetchWord 40 0x700003000).count.raise (.addressFault 4095) := by decide
theorem test_jump_to_itself : ended (ran State.reset 0x780000000) = (0, 1, .running) := by decide -- V77, its first step
theorem test_jump_past_program : ended (ran State.reset 0x780000001) = (0, 1, .faulted (.controlFault 1)) := by decide -- R179
theorem test_jumpif_taken_past_program : -- V82, its second step
    ended (ran (start 0 0 0 0 true true []) 0x800000064) = (0, 1, .faulted (.controlFault 100)) := by decide
theorem test_jumpif_not_taken : ended (ran (start 2 0 0 0 false false []) 0x800000064) = (1, 1, .running) := by decide -- V81
theorem test_halt : ended (ran State.reset 0x000000000) = (0, 1, .halted) := by decide -- R183
theorem test_implicit_halt : after (step State.reset) = some { State.reset with status := .halted } := by decide -- V79

/-! ### Collaborator instructions -/

theorem test_apply : (ran (start 0 0 4095 0 true true []) 0x890007000).reg 2 = Config.applyFn 7 4095 := rfl -- V108
theorem test_enfold_sends_the_cells : -- V109
    (ran (start 0 0 3 0 true true [(0, 1), (1, 2), (2, 3)]) 0x900001002).history
      = [.enfold [1, 2, 3] (Config.enfoldFn [1, 2, 3])] := rfl
theorem test_enfold_past_memory : -- V111
    ended (ran (start 0 254 3 0 true true []) 0x900001002) = (0, 1, .faulted (.addressFault 256)) := by decide
theorem test_unfold : -- V113
    let t := ran { start 0 16 0 0x2A true true [] with unfoldAnswers := [.sequence [7, 8]] } 0x980001003
    (t.mem, t.reg 0, t.history) = ([(16, 7), (17, 8)], 2, [.unfold 0x2A (.sequence [7, 8])]) := by decide
theorem test_unfold_not_found : -- V114
    ended (ran { start 0 0 0 0x2B true true [] with unfoldAnswers := [.notFound] } 0x980001003)
      = (0, 1, .faulted (.storeFault (.notFound 0x2B))) := by decide
theorem test_drsins : (ran (start 1 2 3 0 true true []) 0xA00001002).history = [.insert ⟨1, 2, 3⟩] := by decide -- V118
theorem test_drsqe : -- V119
    let t := ran { start 0 8 32 0 true true [(8, 1), (9, 99), (10, 99)] with queryAnswers := [[⟨1, 2, 3⟩, ⟨1, 5, 6⟩]] }
      0xA84001002
    (t.reg 0, t.cells 32 6, t.history)
      = (2, [1, 2, 3, 1, 5, 6], [.queryExact 0b100 ⟨some 1, none, none⟩ [⟨1, 2, 3⟩, ⟨1, 5, 6⟩]]) := by decide
theorem test_drsqe_results_past_memory : -- V123
    ended (ran { start 0 8 250 0 true true [] with queryAnswers := [[⟨0, 0, 0⟩, ⟨0, 0, 1⟩, ⟨0, 0, 2⟩]] } 0xA80001002)
      = (0, 1, .faulted (.addressFault 258)) := by decide
theorem test_drsqb_sends_the_signature : -- V124
    (ran { start 0 8 32 0 true true [(10, 9)] with queryAnswers := [[]] } 0xB01001002).history
      = [.queryByBasin 0b001 ⟨none, none, some (Config.basinFn 9)⟩ []] := rfl
theorem test_drsqb_pattern_past_memory : -- R210
    ended (ran (start 0 254 0 0 true true []) 0xB07001002) = (0, 1, .faulted (.addressFault 256)) := by decide

/-! ### The assembler -/

/-- R77, R79: the source's scenario. -/
theorem test_assemble_the_scenario :
    assembleProgram "ADD r0,r0,r1\nJumpIf Carry->4\nStore r0,[addr=0]\nHalt\nHalt".toList
      = some [0x080000001, 0x840000004, 0x704000000, 0x000000000, 0x000000000] := by decide

/-- R79, R80, R78: a label, a comment, a pseudo-instruction, a mask and an address. -/
theorem test_assemble_labels_and_masks :
    assembleProgram "loop: SUB r2, r2, #1 ; down\n JNZ loop\nDRSQE r0, [r1], [r2], #0b101\nload r0, [0x10]".toList
      = some [0x112002001, 0x820000000, 0xA85001002, 0x684000010] := by decide

/-! ### Witnesses: for each statement with hypotheses, operands and a state that meet them, clause by clause -/

/-- A program of one word, so that index 0 is valid and index 1 is not. -/
def oneWord (w : Word36) : State := { State.reset with prog := [w] }

/-- Operands of which the destination is the greatest register, and of which it is the first that is none. -/
theorem test_witness_wf_of_every_form :
    (∀ i ∈ ([.add 3 (.reg 3) (.imm 4095), .sub 3 (.imm 0) (.reg 3), .and 3 (.reg 0) (.reg 3), .or 3 (.imm 0) (.imm 0),
        .xor 3 (.reg 0) (.imm 0), .not 3 (.reg 3), .shl 3 (.reg 0) (.imm 13), .shr 3 (.reg 0) (.imm 13),
        .sar 3 (.reg 0) (.imm 13), .rol 3 (.reg 0) (.imm 13), .loadk 3 0, .mov 3 3, .load 3 (.ind 3), .store 3 (.abs 0),
        .apply 3 0, .enfold 3 3 3, .unfold 3 3 3, .drsins 3 3 3, .drsqe 3 3 3 0, .drsqb 3 3 3 7] : List Instr), i.wf = true)
    ∧ (∀ i ∈ ([.add 4 (.reg 0) (.imm 0), .sub 0 (.imm 0) (.reg 4), .and 0 (.reg 4) (.reg 0), .or 4 (.imm 0) (.imm 0),
        .xor 4 (.reg 0) (.imm 0), .not 0 (.reg 4), .shl 4 (.reg 0) (.imm 0), .shr 4 (.reg 0) (.imm 0),
        .sar 4 (.reg 0) (.imm 0), .rol 4 (.reg 0) (.imm 0), .loadk 4 0, .mov 0 4, .load 0 (.ind 4), .store 4 (.abs 0),
        .apply 4 0, .enfold 0 0 4, .unfold 0 4 0, .drsins 4 0 0, .drsqe 0 0 4 0, .drsqb 0 0 0 0] : List Instr),
        i.wf = false) := by decide

/-- MalformedWordsAreThoseThatBreakTheirFormat: for each opcode a word that is malformed and one that is not. -/
theorem test_witness_formats :
    (∀ p ∈ ([(0, 0x040000000), (1, 0x081000000), (2, 0x101000000), (3, 0x180010000), (4, 0x200000010), (5, 0x281000000),
        (6, 0x302000000), (7, 0x380000010), (8, 0x400010000), (9, 0x481000000), (10, 0x501000000), (11, 0x580000000),
        (12, 0x604000000), (13, 0x680000001), (14, 0x700010000), (15, 0x788000000), (16, 0x808000000), (17, 0x880000001),
        (18, 0x901000000), (19, 0x980010000), (20, 0xA00000010), (21, 0xA80000010), (22, 0xB00000000)] : List (Nat × Word36)),
        (p.2.extractLsb' 31 5).toNat = p.1 ∧ decode p.2 = .error .malformedOperand)
    ∧ (∀ p ∈ ([(0, 0x000000000), (1, 0x086FFFFFF), (2, 0x100000000), (3, 0x180003003), (4, 0x202000FFF), (5, 0x284FFF000),
        (6, 0x304FFF000), (7, 0x380000000), (8, 0x400000000), (9, 0x480000000), (10, 0x500000000), (11, 0x584FFF000),
        (12, 0x600003000), (13, 0x684FFFFFF), (14, 0x700003000), (15, 0x780FFFFFF), (16, 0x860FFFFFF), (17, 0x880FFF000),
        (18, 0x900003003), (19, 0x980003003), (20, 0xA00003003), (21, 0xA80003003), (22, 0xB01003003)] : List (Nat × Word36)),
        (p.2.extractLsb' 31 5).toNat = p.1 ∧ decode p.2 ≠ .error .malformedOperand) := by decide

/-- FirstBadRegisterFieldIsReported: a bad header, a bad field A and a bad field B; an immediate in field A before a bad field B,
beside a query word whose bit 26 is a mask bit, so that its field A is still a register. -/
theorem test_witness_bad_register_fields :
    [decode 0x0A0005006, decode 0x080005006, decode 0x080003006, decode 0x084FFF006, decode 0x084005006, decode 0xA84005006]
      = [.error (.badRegister 4), .error (.badRegister 5), .error (.badRegister 6), .error (.badRegister 6),
        .error (.badRegister 6), .error (.badRegister 5)] := by decide

/-- ProgramImageIsFiveBigEndianBytesAWord: images that are no program. -/
theorem test_witness_bad_images :
    programOfImage [0, 0, 0, 0] = none ∧ programOfImage [0x10, 0, 0, 0, 0] = none := by decide

/-- PseudoInstructionsHaveTheirListedEffects, AStoreIsSeenByTheNextLoad: a valid register; the last cell, named by a register in
the STORE and by a literal in the LOAD. -/
theorem test_witness_valid_register_and_cell :
    (3 : RegIdx).toNat < 4 ∧ (start 7 255 0 0 false false []).mem.wf = true
    ∧ (Instr.store 0 (.ind 1)).wf = true ∧ (Instr.load 1 (.abs 255)).wf = true
    ∧ (start 7 255 0 0 false false []).address (.ind 1) < (start 7 255 0 0 false false []).memCap
    ∧ (start 7 255 0 0 false false []).address (.abs 255) = (start 7 255 0 0 false false []).address (.ind 1) := by decide

/-- LogicInstructionsWriteTheirResultAndClearCarry, LoadkAndMovCopyAndLeaveFlags, JumpGoesToAValidTargetOrFaults,
JumpifGoesToItsTargetOnlyWhenItsConditionHolds, HaltEndsTheRunWhereItStands: words of these opcodes that their formats refuse. -/
theorem test_witness_refused_words :
    opField 0x30A002000 = 0x06 ∧ (0x30A002000 : Word36).getLsbD 25 = true
    ∧ opField 0x308002001 = 0x06 ∧ (0x308002001 : Word36).extractLsb' 0 12 ≠ 0
    ∧ opField 0x580001000 = 0x0B ∧ (0x580001000 : Word36).getLsbD 26 = false
    ∧ opField 0x604001000 = 0x0C ∧ (0x604001000 : Word36).getLsbD 26 = true
    ∧ opField 0x781000000 = 0x0F ∧ (0x781000000 : Word36).extractLsb' 24 7 ≠ 0
    ∧ opField 0x801000000 = 0x10 ∧ (0x801000000 : Word36).extractLsb' 24 5 ≠ 0
    ∧ opField 0x000000001 = 0x00 ∧ (0x000000001 : Word36) ≠ 0 := by decide

/-- FlagsAgreeWithTheLastAluResult, OnlyAluClassInstructionsChangeFlags, NoInstructionWritesASecondRegister,
OnlyFourInstructionsWriteMemory, AnInstructionIssuesAtMostOnePortRequest: an instruction that completes, of each kind. -/
theorem test_witness_instructions_complete :
    (Instr.add 0 (.imm 1) (.imm 1)).wf = true ∧ (Instr.add 0 (.imm 1) (.imm 1)).aluClass = true
    ∧ after (exec (.add 0 (.imm 1) (.imm 1)) State.reset) = some (State.reset.writeAlu 0 ⟨2, false⟩)
    ∧ (Instr.loadk 0 5).aluClass = false ∧ (Instr.loadk 0 5).writesMemory = false
    ∧ (Instr.loadk 0 5).destination ≠ some 1
    ∧ after (exec (.loadk 0 5) State.reset) = some (State.reset.writeReg 0 5) := by decide

/-- OnlyDrawingInstructionsDependOnTheEnvironment, InvalidRegisterIsAFatalDecodeFault. -/
theorem test_witness_draws_and_bad_registers :
    (Instr.enfold 0 0 0).draws = false ∧ (Instr.drsqe 0 4 0 0).emptySignature = false
    ∧ ∃ r ∈ (Instr.drsqe 0 4 0 0).regs, 4 ≤ r.toNat := by decide

/-- LoadMovesACellOrFaults, StoreMovesARegisterOrFaults: the last cell, and the one past it. -/
theorem test_witness_addresses :
    (Instr.load 0 (.abs 255)).wf = true ∧ (Instr.store 0 (.abs 256)).wf = true ∧ State.reset.mem.wf = true
    ∧ State.reset.address (.abs 255) < State.reset.memCap ∧ State.reset.memCap ≤ State.reset.address (.abs 256) := by decide

/-- JumpGoesToAValidTargetOrFaults, JumpifGoesToItsTargetOnlyWhenItsConditionHolds: the last valid target, and the first that
is none; a condition that holds and one that does not. -/
theorem test_witness_targets :
    (0 : Index).toNat < (oneWord 0).prog.length ∧ (oneWord 0).prog.length ≤ (1 : Index).toNat
    ∧ (oneWord 0).z = false ∧ (oneWord 0).c = false
    ∧ (start 0 0 0 0 true true []).z = true ∧ (start 0 0 0 0 true true []).c = true := by decide

/-- HaltEndsTheRunWhereItStands: a HALT below the limit, and one at it. -/
theorem test_witness_halt :
    (oneWord 0).status = .running ∧ (oneWord 0).prog[(oneWord 0).pc.toNat]? = some 0
    ∧ (oneWord 0).steps < (oneWord 0).maxSteps
    ∧ ({ oneWord 0 with maxSteps := 0 } : State).maxSteps ≤ ({ oneWord 0 with maxSteps := 0 } : State).steps := by decide

/-- EnfoldDigestsTheCellsOrFaults: a length of 0, a sequence that ends at the last cell, and one that runs past it. -/
theorem test_witness_enfold :
    ((start 0 4095 0 0 false false []).reg 2).toNat = 0
    ∧ ((start 0 253 3 0 false false []).reg 1).toNat + ((start 0 253 3 0 false false []).reg 2).toNat ≤ 256
    ∧ 256 < ((start 0 254 3 0 false false []).reg 1).toNat + ((start 0 254 3 0 false false []).reg 2).toNat
    ∧ (Instr.enfold 0 1 2).wf = true := by decide

/-- A state whose `r1` and `r2` are these, with one unfold response and one query response lined up. -/
def answered (r1 r2 : IU) (u : UnfoldResponse) (ts : List Triplet) : State :=
  { start 0 r1 r2 0 false false [] with unfoldAnswers := [u], queryAnswers := [ts] }

/-- UnfoldWritesTheSequenceOrFaults: no sequence; the greatest length and one more; no cell; an area that ends at the last
cell and one that runs past it. -/
theorem test_witness_unfold :
    (answered 0 0 .notFound []).unfoldAnswer 0 = .notFound
    ∧ (answered 4095 0 (.sequence []) []).unfoldAnswer 0 = .sequence []
    ∧ (answered 254 0 (.sequence [7, 8]) []).unfoldAnswer 0 = .sequence [7, 8]
    ∧ ((answered 254 0 (.sequence [7, 8]) []).reg 1).toNat + [7, 8].length = (answered 254 0 (.sequence [7, 8]) []).memCap
    ∧ ((answered 255 0 (.sequence [7, 8]) []).reg 1).toNat + [7, 8].length = (answered 255 0 (.sequence [7, 8]) []).memCap + 1
    ∧ (Instr.unfold 0 1 2).wf = true ∧ (answered 255 0 (.sequence [7, 8]) []).mem.wf = true := by decide

theorem test_witness_unfold_too_long :
    ∃ seq, (answered 0 0 (.sequence (List.replicate 4096 0)) []).unfoldAnswer 0 = .sequence seq ∧ 4095 < seq.length :=
  ⟨List.replicate 4096 0, rfl, by rw [List.length_replicate]; decide⟩

/-- DrsqeDeliversTheMatchesOrFaults, DrsqbDeliversTheMatchesOrFaults: a pattern that ends at the last cell and one that runs
past it; no triplet; results that end at the last cell and results that run past it. -/
theorem test_witness_queries :
    ((answered 253 0 .notFound []).reg 1).toNat + 3 ≤ (answered 253 0 .notFound []).memCap
    ∧ (answered 254 0 .notFound []).memCap < ((answered 254 0 .notFound []).reg 1).toNat + 3
    ∧ (answered 0 253 .notFound []).exactAnswer 0 ⟨none, none, none⟩ = []
    ∧ (answered 0 253 .notFound [⟨1, 2, 3⟩]).exactAnswer 0 ⟨none, none, none⟩ = [⟨1, 2, 3⟩]
    ∧ (answered 0 253 .notFound [⟨1, 2, 3⟩]).basinAnswer 7 ⟨none, none, none⟩ = [⟨1, 2, 3⟩]
    ∧ ((answered 0 253 .notFound [⟨1, 2, 3⟩]).reg 2).toNat + 3 * 1 = (answered 0 253 .notFound [⟨1, 2, 3⟩]).memCap
    ∧ (answered 0 254 .notFound [⟨1, 2, 3⟩]).memCap < ((answered 0 254 .notFound [⟨1, 2, 3⟩]).reg 2).toNat + 3 * 1
    ∧ (Instr.drsqe 0 1 2 0).wf = true ∧ (Instr.drsqb 0 1 2 7).wf = true ∧ (Instr.drsqb 0 1 2 0).wf = false := by decide

/-- The triplets whose subjects are the `n` numbers from `k`. -/
def manyTriplets (k n : Nat) : List Triplet := (List.range' k n).map fun x => ⟨BitVec.ofNat 12 x, 0, 0⟩

/-- As many triplets as there are IUs are all different. -/
theorem manyTriplets_distinct (n : Nat) : ∀ k, k + n ≤ 4096 → distinct (manyTriplets k n) = manyTriplets k n := by
  induction n with
  | zero => intro k _; rfl
  | succ n ih =>
    intro k hk
    have hnot : (⟨BitVec.ofNat 12 k, 0, 0⟩ : Triplet) ∉ manyTriplets (k + 1) n := by
      intro hm
      simp only [manyTriplets, List.mem_map, List.mem_range'_1, Triplet.mk.injEq] at hm
      obtain ⟨x, hx, he, -⟩ := hm
      have h := congrArg BitVec.toNat he
      rw [BitVec.toNat_ofNat, BitVec.toNat_ofNat, Nat.mod_eq_of_lt (by omega), Nat.mod_eq_of_lt (by omega)] at h
      omega
    have hcons : manyTriplets k (n + 1) = ⟨BitVec.ofNat 12 k, 0, 0⟩ :: manyTriplets (k + 1) n := rfl
    rw [hcons, distinct, if_neg hnot, ih (k + 1) (by omega)]

/-- DrsqeDeliversTheMatchesOrFaults, DrsqbDeliversTheMatchesOrFaults: more triplets than an IU can count. -/
theorem test_witness_query_too_long :
    4095 < ((answered 0 0 .notFound (manyTriplets 0 4096)).exactAnswer 0 ⟨none, none, none⟩).length
    ∧ 4095 < ((answered 0 0 .notFound (manyTriplets 0 4096)).basinAnswer 7 ⟨none, none, none⟩).length := by
  have h := manyTriplets_distinct 4096 0 (by decide)
  have he : (answered 0 0 .notFound (manyTriplets 0 4096)).exactAnswer 0 ⟨none, none, none⟩ = manyTriplets 0 4096 := h
  have hb : (answered 0 0 .notFound (manyTriplets 0 4096)).basinAnswer 7 ⟨none, none, none⟩ = manyTriplets 0 4096 := h
  rw [he, hb, manyTriplets, List.length_map, List.length_range']
  decide

/-- QueryAnswersAreSetsOfTheTripletsListed: lined-up responses, one without repetition and one with; R202, logs 6 and 7. -/
theorem test_witness_lined_up_answers :
    ([⟨1, 2, 3⟩, ⟨1, 2, 4⟩] : List Triplet).Nodup
    ∧ (answered 0 0 .notFound [⟨1, 2, 3⟩, ⟨1, 2, 4⟩]).queryAnswers = [[⟨1, 2, 3⟩, ⟨1, 2, 4⟩]]
    ∧ (answered 0 0 .notFound [⟨1, 2, 3⟩, ⟨1, 2, 3⟩]).exactAnswer 0 ⟨none, none, none⟩ = [⟨1, 2, 3⟩]
    ∧ (answered 0 0 .notFound []).unfoldAnswers = [.notFound] := by decide

/-- IllegalOpcodesAreReportedByNumber, StepRunsTheDecodedInstruction, StepFaultsOnAWordThatDoesNotDecode,
APlacedWordIsTheNextInstructionRun. -/
theorem test_witness_engine :
    (oneWord 0x58C100000).status = .running ∧ (oneWord 0x58C100000).prog[(oneWord 0x58C100000).pc.toNat]? = some 0x58C100000
    ∧ (oneWord 0x58C100000).steps < (oneWord 0x58C100000).maxSteps ∧ decode 0x58C100000 = .ok (.loadk 1 256)
    ∧ (oneWord 0xB80000000).prog[(oneWord 0xB80000000).pc.toNat]? = some 0xB80000000
    ∧ decode 0xB80000000 = .error (.illegalOpcode 0x17)
    ∧ (0xB80000000 : Word36).extractLsb' 31 5 = 0x17 ∧ 0x17 ≤ (0x17 : BitVec 5).toNat
    ∧ (oneWord 0xB80000000).status = .running ∧ (oneWord 0xB80000000).steps < (oneWord 0xB80000000).maxSteps
    ∧ 0x58C100000 < 2 ^ 36 ∧ decode (BitVec.ofNat 36 0x58C100000) = .ok (.loadk 1 256) := by decide

/-- ThePastOfTheProgramHaltsImplicitly, TheStepLimitStopsBeforeTheInstruction, NoStepLeavesATerminalStatus,
TickAndStepsCountExecutedInstructions. -/
theorem test_witness_ends :
    State.reset.status = .running ∧ State.reset.prog.length ≤ State.reset.pc.toNat
    ∧ (oneWord 0).pc.toNat < (oneWord 0).prog.length
    ∧ ({ oneWord 0 with maxSteps := 0 } : State).maxSteps ≤ ({ oneWord 0 with maxSteps := 0 } : State).steps
    ∧ ({ State.reset with status := .halted } : State).status ≠ .running
    ∧ after (step (oneWord 0)) = some { oneWord 0 with status := .halted, tick := 1, steps := 1 }
    ∧ after (step State.reset) = some { State.reset with status := .halted } := by decide

/-- AFaultChangesTheStatusAlone: a step that ends at the limit, and one that ends in an instruction's fault. -/
theorem test_witness_faulting_steps :
    after (step { oneWord 0 with maxSteps := 0 }) = some { oneWord 0 with maxSteps := 0, status := .faulted .resourceExhausted }
    ∧ after (step (oneWord 0x780000001))
        = some { oneWord 0x780000001 with tick := 1, steps := 1, status := .faulted (.controlFault 1) } := by decide

/-- TheProgramCounterNeverLeavesTheProgram, NoStepChangesTheConfiguration, EveryStepKeepsTheStateInRange: a state in range
whose step goes on. -/
theorem test_witness_range :
    (oneWord 0x58C100000).wf = true
    ∧ after (step (oneWord 0x58C100000)) = some ((oneWord 0x58C100000).count.writeReg 1 256)
    ∧ ((oneWord 0x58C100000).count.writeReg 1 256).status = .running := by decide

/-- EveryStepKeepsFaultReasonsTruthful: a running state, and one whose fault is true. -/
theorem test_witness_truthful :
    (oneWord 0).faultTruthful ∧ ((oneWord 0).raise (.controlFault 1)).faultTruthful := by
  constructor
  · intro r h; cases h
  · intro r h; cases h; exact (by decide : (1 : Nat) ≤ 1)

/-- ARunStartsRunningOrIsRefused: the four kinds of start. -/
theorem test_witness_starts :
    (([0] : List Word36).length ≤ 16777215) ∧ ((-1 : Int) < 0)
    ∧ ({ State.reset with mem := [(256, 1)] } : State).memoryInRange = false ∧ State.reset.memoryInRange = true := by decide

theorem test_witness_program_too_long : ∃ prog : List Word36, 16777215 < prog.length :=
  ⟨List.replicate 16777216 0, by rw [List.length_replicate]; decide⟩

/-- R19, R33: what the host gets back of the source's scenario (R77): r0 = 8 and 8 in cell 0. -/
theorem test_run_scenario_reports :
    after (runScenario [0x080000001, 0x840000004, 0x704000000, 0x000000000, 0x000000000] (start 5 3 0 0 false false []) 100)
      = some { finalState := ⟨⟨8, 3, 0, 0⟩, false, false, [(0, 8)], 3, 4, ⟨0⟩, ⟨0⟩⟩, outcome := .halted } := by decide

/-- EveryRunEndsWithinItsStepLimit: a run that starts. -/
theorem test_witness_run :
    after (startRun [0] State.reset 5) = some { State.reset with prog := [0], maxSteps := 5 } := by decide

/-- AStepLimitObservesTheStateAfterItsInstructions: after no instruction the run goes on; past the program it has ended. -/
theorem test_witness_observation :
    State.reset.status = .running ∧ State.reset.steps = 0 ∧ 1000 ≤ State.reset.maxSteps
    ∧ after (runSteps 0 State.reset) = some State.reset
    ∧ after (runSteps 1 State.reset) = some { State.reset with status := .halted } := by decide

end Sys2Proof.Tests
end

