-- ==== Sys2Proof/Proofs/Scope.lean ====
section
/-! PROOF. The states within the ranges of the spec (spec/00_scope.md R7, R8; spec/10_state.md R30): being in range rests on
memory, `MEM_CAP` and the program alone; of the updates only the two memory writes touch these, and both write below
`MEM_CAP`. -/

namespace Sys2Proof.Machine

/-! ### Being in range -/

theorem State.wf_iff {s : State} :
    s.wf = true ↔ s.memCap ≤ Config.memCapLimit ∧ s.mem.wf = true ∧ (∀ cell ∈ s.mem, cell.1 < s.memCap)
      ∧ s.prog.length ≤ Config.lenLimit := by
  simp [State.wf, State.memoryInRange, and_assoc]

/-- Being in range rests on memory, `MEM_CAP` and the program alone. -/
theorem State.wf_congr {s t : State} (hmem : t.mem = s.mem) (hcap : t.memCap = s.memCap) (hprog : t.prog = s.prog) :
    t.wf = s.wf := by
  simp only [State.wf, State.memoryInRange, hmem, hcap, hprog]

/-! ### The updates that leave memory -/

@[simp] theorem State.setReg_wf (s : State) (i : RegIdx) (v : IU) : (s.setReg i v).wf = s.wf := State.wf_congr rfl rfl rfl
@[simp] theorem State.setFlags_wf (s : State) (z c : Bool) : (s.setFlags z c).wf = s.wf := State.wf_congr rfl rfl rfl
@[simp] theorem State.advance_wf (s : State) : s.advance.wf = s.wf := State.wf_congr rfl rfl rfl
@[simp] theorem State.jumpTo_wf (s : State) (t : Index) : (s.jumpTo t).wf = s.wf := State.wf_congr rfl rfl rfl
@[simp] theorem State.halt_wf (s : State) : s.halt.wf = s.wf := State.wf_congr rfl rfl rfl
@[simp] theorem State.raise_wf (s : State) (r : FaultReason) : (s.raise r).wf = s.wf := State.wf_congr rfl rfl rfl
@[simp] theorem State.count_wf (s : State) : s.count.wf = s.wf := State.wf_congr rfl rfl rfl
@[simp] theorem State.record_wf (s : State) (e : PortEvent) : (s.record e).wf = s.wf := State.wf_congr rfl rfl rfl
@[simp] theorem State.requestUnfold_wf (s : State) (d : IU) : (s.requestUnfold d).wf = s.wf := State.wf_congr rfl rfl rfl
@[simp] theorem State.requestQuery_wf (s : State) (e : PortEvent) : (s.requestQuery e).wf = s.wf := State.wf_congr rfl rfl rfl

@[simp] theorem State.writeAlu_wf (s : State) (rd : RegIdx) (r : AluResult) : (s.writeAlu rd r).wf = s.wf := by
  simp [State.writeAlu]

@[simp] theorem State.writeReg_wf (s : State) (rd : RegIdx) (v : IU) : (s.writeReg rd v).wf = s.wf := by
  simp [State.writeReg]

/-! ### The updates that write memory -/

/-- R43: a write to a cell below `MEM_CAP` keeps a state in range. -/
theorem State.setCell_wf {s : State} (hs : s.wf = true) {a : Nat} (ha : a < s.memCap) (v : IU) :
    (s.setCell a v).wf = true := by
  obtain ⟨hcap, hmem, hbelow, hprog⟩ := State.wf_iff.1 hs
  exact State.wf_iff.2 ⟨hcap, Memory.write_wf hmem a v, Memory.write_below hbelow ha v, hprog⟩

/-- R43, R45: a write to an area that is empty or ends within `MEM_CAP` keeps a state in range. -/
theorem State.setCells_wf {s : State} (hs : s.wf = true) {a : Nat} {vs : List IU}
    (ha : vs.length = 0 ∨ a + vs.length ≤ s.memCap) : (s.setCells a vs).wf = true := by
  obtain ⟨hcap, hmem, hbelow, hprog⟩ := State.wf_iff.1 hs
  have harea : vs = [] ∨ a + vs.length ≤ s.memCap := ha.imp_left List.length_eq_zero_iff.1
  exact State.wf_iff.2 ⟨hcap, Memory.writeMany_wf hmem a, Memory.writeMany_below hbelow harea, hprog⟩

/-- R204: a response is written only where it fits, so its delivery keeps a state in range. -/
theorem State.deliver_wf {s : State} (hs : s.wf = true) (rd : RegIdx) (b : Nat) (vs : List IU) (n : Nat) :
    (s.deliver rd b vs n).wf = true := by
  rcases State.deliver_cases rd b vs n s with ⟨-, htooLong⟩ | ⟨-, -, -, hpast⟩ | ⟨-, hfits, hwritten⟩
  · rw [htooLong, State.raise_wf, hs]
  · rw [hpast, State.raise_wf, hs]
  · rw [hwritten, State.advance_wf, State.setReg_wf, State.setCells_wf hs hfits]

/-! ### Instructions and steps -/

/-- Every effect of an instruction keeps a state in range: STORE has passed the check of its address, the three delivering
instructions write through `State.deliver`, and every other effect leaves memory. -/
theorem Effect.keeps_wf {i : Instr} {s t : State} (he : Effect i s t) (hs : s.wf = true) : t.wf = true := by
  cases he with
  | store _ _ _ hm => rw [State.advance_wf, State.setCell_wf hs hm]
  | unfold => exact State.deliver_wf (by simpa using hs) ..
  | queryExact => exact State.deliver_wf (by simpa using hs) ..
  | queryByBasin => exact State.deliver_wf (by simpa using hs) ..
  | guardFault | alu | register | halt | addressFault | jump | controlFault | notTaken | enfold | notFound | insert =>
    simpa using hs

/-- Every step of a running machine keeps a state in range. -/
theorem RunningStep.keeps_wf {s t : State} (h : RunningStep s t) (hs : s.wf = true) : t.wf = true := by
  cases h with
  | past | limit | undecodable => simpa using hs
  | instruction _ _ _ _ _ _ _ he => exact he.keeps_wf (by simpa using hs)

/-- R32, R249: a machine whose run has ended stands still. -/
theorem step_of_not_running {s : State} (hr : s.status ≠ .running) : step s = .next s := by
  unfold step engineStep
  cases h : s.status with
  | running => exact absurd h hr
  | halted => rfl
  | faulted => rfl

/-- Settles O55: a machine that has ended stands still, and every shape of a running step keeps the ranges. -/
theorem everyStepKeepsTheStateInRange : Obligations.EveryStepKeepsTheStateInRange := by
  intro s t hs hstep
  by_cases hr : s.status = .running
  · exact (runningStep_of_step hr hstep).keeps_wf hs
  · rw [step_of_not_running hr] at hstep
    cases hstep
    exact hs

end Sys2Proof.Machine
end

