-- ==== Sys2Proof/Proofs/State.lean ====
section
/-! PROOF. The state's rules (spec/10_state.md): what an instruction leaves of the registers, the flags, the configuration
and the environment, where the program counter goes, and what the host sees. Each is read off the shapes of `Effect` and
`RunningStep`; only `State.deliver` needs a look inside, and `State.deliver_keeps` takes it once. -/

namespace Sys2Proof.Machine

/-! ### An instruction that is not well formed (R22, R75) -/

/-- An instruction in which the guard finds a fault takes that fault, whatever its effect would have been. -/
theorem exec_of_formFault {i : Instr} {f : DecodeFault} (h : i.formFault = some f) (s : State) :
    exec i s = .next (s.raise (.decodeFault f)) := by
  obtain ⟨effect, he⟩ := exec_eq_checked i s
  rw [he, State.checked, h]

theorem exists_formFault_of_not_wf {i : Instr} (h : i.wf = false) : ∃ f, i.formFault = some f := by
  rw [← Option.ne_none_iff_exists', ne_eq, formFault_eq_none_iff_wf, h]
  exact Bool.false_ne_true

/-- The guard names an invalid register of the instruction, where one stands in it and the signature is not empty. -/
theorem exists_formFault_badRegister {i : Instr} (hsig : i.emptySignature = false) (hbad : ∃ r ∈ i.regs, 4 ≤ r.toNat) :
    ∃ r ∈ i.regs, 4 ≤ r.toNat ∧ i.formFault = some (.badRegister r) := by
  obtain ⟨r, hr, hge⟩ := hbad
  cases hf : i.formFault with
  | none =>
    have hvalid : RegIdx.valid r = true := ((formFault_eq_none_iff i).1 hf).2 r hr
    rw [RegIdx.not_valid_iff.2 hge] at hvalid
    cases hvalid
  | some f =>
    rcases formFault_eq_some hf with ⟨hempty, -⟩ | ⟨-, r', hr', hinvalid, rfl⟩
    · rw [hsig] at hempty
      cases hempty
    · exact ⟨r', hr', RegIdx.not_valid_iff.1 hinvalid, rfl⟩

/-- Settles O28: the guard's fault is of a register that the instruction names. -/
theorem invalidRegisterIsAFatalDecodeFault : Obligations.InvalidRegisterIsAFatalDecodeFault := by
  intro i s hsig hbad
  obtain ⟨r, hr, hge, hf⟩ := exists_formFault_badRegister hsig hbad
  exact ⟨r, hr, hge, exec_of_formFault hf s⟩

/-! ### What a delivered response leaves unchanged -/

/-- What neither a fault nor the writes of a response touch, the delivery of a response does not touch. -/
theorem State.deliver_keeps {α : Type} (π : State → α) (rd : RegIdx) (hraise : ∀ s r, π (State.raise r s) = π s)
    (hwrite : ∀ s b vs v, π (((State.setCells b vs s).setReg rd v).advance) = π s)
    (s : State) (b : Nat) (vs : List IU) (n : Nat) : π (s.deliver rd b vs n) = π s := by
  rcases State.deliver_cases rd b vs n s with ⟨-, htooLong⟩ | ⟨-, -, -, hpast⟩ | ⟨-, -, hwritten⟩
  · rw [htooLong, hraise]
  · rw [hpast, hraise]
  · rw [hwritten, hwrite]

section
variable (s : State) (rd : RegIdx) (b : Nat) (vs : List IU) (n : Nat)

@[simp] theorem State.deliver_z : (s.deliver rd b vs n).z = s.z :=
  deliver_keeps State.z rd (fun _ _ => rfl) (fun _ _ _ _ => rfl) s b vs n
@[simp] theorem State.deliver_c : (s.deliver rd b vs n).c = s.c :=
  deliver_keeps State.c rd (fun _ _ => rfl) (fun _ _ _ _ => rfl) s b vs n
@[simp] theorem State.deliver_prog : (s.deliver rd b vs n).prog = s.prog :=
  deliver_keeps State.prog rd (fun _ _ => rfl) (fun _ _ _ _ => rfl) s b vs n
@[simp] theorem State.deliver_maxSteps : (s.deliver rd b vs n).maxSteps = s.maxSteps :=
  deliver_keeps State.maxSteps rd (fun _ _ => rfl) (fun _ _ _ _ => rfl) s b vs n
@[simp] theorem State.deliver_memCap : (s.deliver rd b vs n).memCap = s.memCap :=
  deliver_keeps State.memCap rd (fun _ _ => rfl) (fun _ _ _ _ => rfl) s b vs n
@[simp] theorem State.deliver_contentStore : (s.deliver rd b vs n).contentStore = s.contentStore :=
  deliver_keeps State.contentStore rd (fun _ _ => rfl) (fun _ _ _ _ => rfl) s b vs n
@[simp] theorem State.deliver_drsStore : (s.deliver rd b vs n).drsStore = s.drsStore :=
  deliver_keeps State.drsStore rd (fun _ _ => rfl) (fun _ _ _ _ => rfl) s b vs n

theorem State.deliver_reg_other {r : RegIdx} (h : r ≠ rd) : (s.deliver rd b vs n).reg r = s.reg r :=
  deliver_keeps (State.reg · r) rd (fun _ _ => rfl) (fun s b vs v => State.setReg_reg_other (s.setCells b vs) v h) s b vs n

end

/-! ### Flags and registers (R21, R25) -/

theorem State.writeAlu_reg_other (s : State) {rd r : RegIdx} (res : AluResult) (h : r ≠ rd) :
    (s.writeAlu rd res).reg r = s.reg r :=
  State.setReg_reg_other s res.value h

theorem State.writeReg_reg_other (s : State) {rd r : RegIdx} (v : IU) (h : r ≠ rd) : (s.writeReg rd v).reg r = s.reg r :=
  State.setReg_reg_other s v h

/-- R25: every effect but that of an ALU-class instruction leaves the flags. -/
theorem Effect.sameFlags {i : Instr} {s t : State} (he : Effect i s t) (hi : i.aluClass = false) : SameFlags s t := by
  cases he with
  | alu _ _ _ _ _ ha =>
    rw [hi] at ha
    cases ha
  | unfold | queryExact | queryByBasin => simp [SameFlags]
  | guardFault | register | halt | addressFault | store | jump | controlFault | notTaken | enfold | notFound | insert =>
    exact ⟨rfl, rfl⟩

/-- R21: every effect leaves the registers that are not the instruction's destination. -/
theorem Effect.reg_of_ne_destination {i : Instr} {s t : State} (he : Effect i s t) {r : RegIdx}
    (hr : i.destination ≠ some r) : t.reg r = s.reg r := by
  have other {rd : RegIdx} (hd : i.destination = some rd) : r ≠ rd := by
    rintro rfl
    exact hr hd
  cases he with
  | alu _ _ _ _ hd => exact State.writeAlu_reg_other s _ (other hd)
  | register _ _ _ _ hd => exact State.writeReg_reg_other s _ (other hd)
  | enfold => exact State.writeReg_reg_other _ _ (other rfl)
  | unfold | queryExact | queryByBasin => exact State.deliver_reg_other _ _ _ _ _ (other rfl)
  | guardFault | halt | addressFault | store | jump | controlFault | notTaken | notFound | insert => rfl

/-- Settles O23: an instruction that is not well formed takes its fault alone, and only the ALU's effect sets flags. -/
theorem onlyAluClassInstructionsChangeFlags : Obligations.OnlyAluClassInstructionsChangeFlags := by
  rintro i s t hexec (halu | hwf)
  · exact (effect_of_exec hexec).sameFlags halu
  · obtain ⟨f, hf⟩ := exists_formFault_of_not_wf hwf
    rw [exec_of_formFault hf] at hexec
    cases hexec
    exact ⟨rfl, rfl⟩

/-- Settles O24, effect by effect. -/
theorem noInstructionWritesASecondRegister : Obligations.NoInstructionWritesASecondRegister :=
  fun _ _ _ hexec _ hr => (effect_of_exec hexec).reg_of_ne_destination hr

/-! ### The environment (R39, R202) -/

/-- What the environment of a run supplies: the responses lined up and the stores connected. -/
structure Environment where
  unfoldAnswers : List UnfoldResponse
  queryAnswers : List (List Triplet)
  contentStore : StoreHandle
  drsStore : StoreHandle

/-- The state with its environment replaced. -/
def State.inEnvironment (e : Environment) (s : State) : State :=
  { s with
    unfoldAnswers := e.unfoldAnswers
    queryAnswers := e.queryAnswers
    contentStore := e.contentStore
    drsStore := e.drsStore }

section
variable {e : Environment} {s : State}

theorem State.val_inEnvironment (a : Operand) : (s.inEnvironment e).val a = s.val a := by
  cases a with
  | reg | imm => rfl

theorem State.writeAlu_inEnvironment (rd : RegIdx) (res : AluResult) :
    (s.inEnvironment e).writeAlu rd res = (s.writeAlu rd res).inEnvironment e := rfl

/-- An area is checked against `MEM_CAP`, which is no part of the environment. -/
theorem State.withArea_inEnvironment {b n : Nat} {k : State → State}
    (hk : k (s.inEnvironment e) = (k s).inEnvironment e) :
    (s.inEnvironment e).withArea b n k = (s.withArea b n k).inEnvironment e := by
  unfold State.withArea
  rw [apply_ite (State.inEnvironment e), hk]
  rfl

/-- A target is checked against the program, which is no part of the environment. -/
theorem State.transfer_inEnvironment (t : Index) :
    (s.inEnvironment e).transfer t = (s.transfer t).inEnvironment e := by
  unfold State.transfer
  rw [apply_ite (State.inEnvironment e)]
  rfl

/-- An instruction does not depend on the environment when its effect does not. -/
theorem State.checked_inEnvironment {i : Instr} {effect : State → State}
    (he : effect (s.inEnvironment e) = (effect s).inEnvironment e) :
    ∃ t, s.checked i effect = .next t ∧ (s.inEnvironment e).checked i effect = .next (t.inEnvironment e) := by
  unfold State.checked
  cases i.formFault with
  | none => exact ⟨effect s, rfl, congrArg _ he⟩
  | some f => exact ⟨s.raise (.decodeFault f), rfl, rfl⟩

/-- R39: an instruction that draws no response answers the same in every environment. -/
theorem exec_inEnvironment {i : Instr} (hi : i.draws = false) :
    ∃ t, exec i s = .next t ∧ exec i (s.inEnvironment e) = .next (t.inEnvironment e) := by
  cases i with
  | unfold | drsqe | drsqb => cases hi
  | load | store | enfold =>
    simp only [exec, execLoad, execStore, execEnfold]
    exact State.checked_inEnvironment (State.withArea_inEnvironment rfl)
  | jump t =>
    unfold exec execJump
    exact State.checked_inEnvironment (State.transfer_inEnvironment t)
  | jumpif cond t =>
    unfold exec execJumpif
    refine State.checked_inEnvironment ?_
    rw [apply_ite (State.inEnvironment e), ← State.transfer_inEnvironment]
    rfl
  | add | sub | and | or | xor | not | shl | shr | sar | rol =>
    simp only [exec, execAdd, execSub, execAnd, execOr, execXor, execNot, execShl, execShr, execSar, execRol]
    exact State.checked_inEnvironment (by simp only [State.val_inEnvironment, State.writeAlu_inEnvironment])
  | halt | loadk | mov | apply | drsins =>
    simp only [exec, execHalt, execLoadk, execMov, execApply, execDrsins]
    exact State.checked_inEnvironment rfl

end

/-- Settles O27: the two states differ in their environment alone. -/
theorem onlyDrawingInstructionsDependOnTheEnvironment : Obligations.OnlyDrawingInstructionsDependOnTheEnvironment :=
  fun _ _ u q h1 h2 hi => exec_inEnvironment (e := ⟨u, q, h1, h2⟩) hi

/-! ### The program counter (R28, R29) -/

/-- Where an instruction leaves the program counter: at the next index or a valid target with the status as it was, or
where it stood with the run ended. -/
inductive PcMoves (s t : State) : Prop where
  | next (hstatus : t.status = s.status) (hpc : t.pc = s.pc + 1)
  | target (hstatus : t.status = s.status) (hpc : t.pc.toNat < s.prog.length)
  | ended (hstatus : t.status ≠ .running) (hpc : t.pc = s.pc)

/-- A fault ends the run where it stands. -/
theorem PcMoves.raise {s u : State} (r : FaultReason) (hpc : u.pc = s.pc) : PcMoves s (u.raise r) :=
  .ended Status.noConfusion hpc

/-- A response delivered after a request, which leaves status and program counter, goes on to the next index or faults. -/
theorem State.deliver_pcMoves {s u : State} (hstatus : u.status = s.status) (hpc : u.pc = s.pc) (rd : RegIdx) (b : Nat)
    (vs : List IU) (n : Nat) : PcMoves s (u.deliver rd b vs n) := by
  rcases State.deliver_cases rd b vs n u with ⟨-, htooLong⟩ | ⟨-, -, -, hpast⟩ | ⟨-, -, hwritten⟩
  · rw [htooLong]
    exact .raise _ hpc
  · rw [hpast]
    exact .raise _ hpc
  · rw [hwritten]
    exact .next hstatus (congrArg (· + 1) hpc)

/-- R28, R29: of the effects, only a jump goes elsewhere than to the next index, and only a HALT or a fault ends the run. -/
theorem Effect.pcMoves {i : Instr} {s t : State} (he : Effect i s t) : PcMoves s t := by
  cases he with
  | halt => exact .ended Status.noConfusion rfl
  | guardFault | addressFault | controlFault | notFound => exact .raise _ rfl
  | jump _ _ _ _ ht => exact .target rfl ht
  | unfold | queryExact | queryByBasin => exact State.deliver_pcMoves (by simp) (by simp) ..
  | alu | register | store | notTaken | enfold | insert => exact .next rfl rfl

/-- R8, R28: in a state in range, the index after that of an instruction does not wrap to 0. -/
theorem State.pc_succ_toNat {s : State} (hs : s.wf = true) (hp : s.pc.toNat < s.prog.length) :
    (s.pc + 1).toNat = s.pc.toNat + 1 := by
  obtain ⟨-, -, -, hprog⟩ := State.wf_iff.1 hs
  have hlt : s.pc.toNat + 1 < 2 ^ 24 := by
    unfold Config.lenLimit at hprog
    omega
  rw [BitVec.toNat_add]
  exact Nat.mod_eq_of_lt hlt

/-- Settles O50: only a fetched instruction goes on, and the index after it is at most the program's length. -/
theorem theProgramCounterNeverLeavesTheProgram : Obligations.TheProgramCounterNeverLeavesTheProgram := by
  intro s t hs hr hstep
  cases runningStep_of_step hr hstep with
  | past | limit | undecodable => exact ⟨Status.noConfusion, fun _ => rfl⟩
  | instruction _ _ _ hp _ _ _ he =>
    cases he.pcMoves with
    | next hstatus hpc =>
      have hsucc : t.pc.toNat = s.pc.toNat + 1 := by rw [hpc]; exact State.pc_succ_toNat hs hp
      exact ⟨fun _ => ⟨.inl hsucc, by omega⟩, fun hended => absurd (hstatus.trans hr) hended⟩
    | target hstatus hpc => exact ⟨fun _ => ⟨.inr hpc, hpc.le⟩, fun hended => absurd (hstatus.trans hr) hended⟩
    | ended hstatus hpc => exact ⟨fun hrun => absurd hrun hstatus, fun _ => hpc⟩

/-! ### The configuration and the terminal statuses (R32, R36, R54) -/

/-- The configuration of the run and of the machine, and the store handles, are as before. -/
def SameConfiguration (s t : State) : Prop :=
  t.prog = s.prog ∧ t.maxSteps = s.maxSteps ∧ t.memCap = s.memCap
    ∧ t.contentStore = s.contentStore ∧ t.drsStore = s.drsStore

theorem Effect.sameConfiguration {i : Instr} {s t : State} (he : Effect i s t) : SameConfiguration s t := by
  cases he with
  | unfold | queryExact | queryByBasin => simp [SameConfiguration]
  | guardFault | alu | register | halt | addressFault | store | jump | controlFault | notTaken | enfold | notFound
  | insert => exact ⟨rfl, rfl, rfl, rfl, rfl⟩

/-- Settles O51: no effect of an instruction, and no end of a run, touches the configuration. -/
theorem noStepChangesTheConfiguration : Obligations.NoStepChangesTheConfiguration := by
  intro s t hstep
  by_cases hr : s.status = .running
  · cases runningStep_of_step hr hstep with
    | past | limit | undecodable => exact ⟨rfl, rfl, rfl, rfl, rfl⟩
    | instruction _ _ _ _ _ _ _ he => exact he.sameConfiguration
  · rw [step_of_not_running hr] at hstep
    cases hstep
    exact ⟨rfl, rfl, rfl, rfl, rfl⟩

/-- Settles O47. -/
theorem noStepLeavesATerminalStatus : Obligations.NoStepLeavesATerminalStatus :=
  fun _ hr => step_of_not_running hr

/-! ### What the host sees (R33, R35, R170, R262) -/

/-- The start of a run sets the step count, the status and the port history itself, and its refusals look at none of
them. -/
theorem startRun_overwrites (prog : List Word36) (s0 : State) (n : Int) (k : Nat) (st : Status) (h : List PortEvent) :
    startRun prog { s0 with steps := k, status := st, history := h } n = startRun prog s0 n := rfl

/-- Settles O60: what is reported has no step count, and a run depends on its start state through `startRun` alone. -/
theorem theStepCountIsHiddenFromTheHost : Obligations.TheStepCountIsHiddenFromTheHost := by
  refine ⟨fun s => by simp, fun s k => rfl, fun prog s0 n k st h => ?_⟩
  rw [runScenario, runToEnd, startRun_overwrites, ← runToEnd, ← runScenario]

end Sys2Proof.Machine
end

section
/-! PROOF. The memory's rules (spec/20_memory.md): the two addressing modes, what an instruction leaves of memory and of the
port history, each read off the shapes of `Effect`, and a LOAD that follows a STORE to the same cell. -/

namespace Sys2Proof.Machine

/-! ### The addressing modes (R42, R150) -/

@[simp] theorem State.address_abs (s : State) (a : Addr24) : s.address (.abs a) = a.toNat := rfl
@[simp] theorem State.address_ind (s : State) (ra : RegIdx) : s.address (.ind ra) = (s.reg ra).toNat := rfl

/-- An address rests on the registers alone. -/
theorem State.address_congr {s t : State} (hregs : t.regs = s.regs) (addr : Addr) : t.address addr = s.address addr := by
  cases addr with
  | abs a => rfl
  | ind ra => rw [State.address_ind, State.address_ind, State.reg, State.reg, hregs]

/-- Settles O29: a register holds 12 bits, which bound the indirect address. -/
theorem addressesAreLiteralOrRegisterValues : Obligations.AddressesAreLiteralOrRegisterValues :=
  fun s => ⟨s.address_abs, fun ra => ⟨s.address_ind ra, (s.reg ra).isLt⟩⟩

/-! ### Who writes memory (R57) -/

/-- R57: every effect but those of STORE and of the three delivering instructions leaves memory. -/
theorem Effect.mem_of_not_writesMemory {i : Instr} {s t : State} (he : Effect i s t) (hi : i.writesMemory = false) :
    t.mem = s.mem := by
  cases he with
  | store | unfold | queryExact | queryByBasin => cases hi
  | guardFault | alu | register | halt | addressFault | jump | controlFault | notTaken | enfold | notFound | insert => rfl

/-- Settles O25, effect by effect. -/
theorem onlyFourInstructionsWriteMemory : Obligations.OnlyFourInstructionsWriteMemory :=
  fun _ _ _ hexec hi => (effect_of_exec hexec).mem_of_not_writesMemory hi

/-! ### The port history (R56, R202) -/

@[simp] theorem State.deliver_history (s : State) (rd : RegIdx) (b : Nat) (vs : List IU) (n : Nat) :
    (s.deliver rd b vs n).history = s.history :=
  deliver_keeps State.history rd (fun _ _ => rfl) (fun _ _ _ _ => rfl) s b vs n

/-- R56, R202: a collaborator instruction other than APPLY records its one request, whether or not it then faults on the
response; every other effect leaves the history. -/
theorem Effect.history_cases {i : Instr} {s t : State} (he : Effect i s t) :
    t.history = s.history ∨ (i.usesPort = true ∧ ∃ e, t.history = s.history ++ [e]) := by
  cases he with
  | enfold | insert | notFound => exact .inr ⟨rfl, _, rfl⟩
  | unfold | queryExact | queryByBasin => exact .inr ⟨rfl, _, State.deliver_history ..⟩
  | guardFault | alu | register | halt | addressFault | store | jump | controlFault | notTaken => exact .inl rfl

/-- Settles O26, effect by effect. -/
theorem anInstructionIssuesAtMostOnePortRequest : Obligations.AnInstructionIssuesAtMostOnePortRequest :=
  fun _ _ _ hexec => (effect_of_exec hexec).history_cases

/-! ### A LOAD after a STORE (R51, R267) -/

/-- A well-formed instruction names valid registers only. -/
theorem valid_of_wf {i : Instr} (hw : i.wf = true) {r : RegIdx} (hr : r ∈ i.regs) : RegIdx.valid r = true :=
  ((formFault_eq_none_iff i).1 ((formFault_eq_none_iff_wf i).2 hw)).2 r hr

/-- R43: an access to one cell below `MEM_CAP` goes on. -/
theorem State.withArea_one_of_lt {s : State} {a : Nat} (ha : a < s.memCap) (k : State → State) :
    s.withArea a 1 k = k s := by
  rcases State.withArea_cases a 1 k s with ⟨-, hpast, -⟩ | ⟨-, hgoesOn⟩
  · omega
  · exact hgoesOn

/-- R153: a STORE to a cell below `MEM_CAP`. -/
theorem exec_store_of_lt {rs : RegIdx} {addr : Addr} {s : State} (hw : (Instr.store rs addr).wf = true)
    (ha : s.address addr < s.memCap) :
    exec (.store rs addr) s = .next ((s.setCell (s.address addr) (s.reg rs)).advance) := by
  rw [exec, execStore, State.checked_of_wf hw, State.withArea_one_of_lt ha]

/-- R152: a LOAD of a cell below `MEM_CAP`. -/
theorem exec_load_of_lt {rd : RegIdx} {addr : Addr} {s : State} (hw : (Instr.load rd addr).wf = true)
    (ha : s.address addr < s.memCap) :
    exec (.load rd addr) s = .next (s.writeReg rd (s.cell (s.address addr))) := by
  rw [exec, execLoad, State.checked_of_wf hw, State.withArea_one_of_lt ha]

theorem State.writeReg_reg_same (s : State) {rd : RegIdx} (v : IU) (h : RegIdx.valid rd = true) :
    (s.writeReg rd v).reg rd = v :=
  State.setReg_reg_same s v h

/-- Settles O32: STORE leaves the registers and `MEM_CAP`, so LOAD's address still names the cell written. -/
theorem aStoreIsSeenByTheNextLoad : Obligations.AStoreIsSeenByTheNextLoad := by
  intro rs rd a1 a2 s hstore hload hmem hlt hsame
  let t := (s.setCell (s.address a1) (s.reg rs)).advance
  have haddr : t.address a2 = s.address a1 := (State.address_congr rfl a2).trans hsame
  have hcell : t.cell (t.address a2) = s.reg rs := by
    rw [haddr, State.advance_cell, State.setCell_cell hmem, if_pos rfl]
  have hin : t.address a2 < t.memCap := haddr.trans_lt hlt
  have hreg : (t.writeReg rd (t.cell (t.address a2))).reg rd = s.reg rs :=
    (State.writeReg_reg_same t _ (valid_of_wf hload (by simp [Instr.regs]))).trans hcell
  exact ⟨t, _, exec_store_of_lt hstore hlt, exec_load_of_lt hload hin, hreg, fun _ => rfl, rfl⟩

end Sys2Proof.Machine
end

section
/-! PROOF. The encoding's rules (spec/30_encoding.md): for each format what its checks leave of a word, the decoder as its four
outcomes, and from these that decoding and encoding undo each other and which words are refused how. -/

namespace Sys2Proof

/-! ### A legal word and its opcode (R62, R69) -/

/-- R60, R69: the opcode of an instruction. -/
def Instr.op : Instr → Op
  | .halt => .halt
  | .add .. => .add
  | .sub .. => .sub
  | .and .. => .and
  | .or .. => .or
  | .xor .. => .xor
  | .not .. => .not
  | .shl .. => .shl
  | .shr .. => .shr
  | .sar .. => .sar
  | .rol .. => .rol
  | .loadk .. => .loadk
  | .mov .. => .mov
  | .load .. => .load
  | .store .. => .store
  | .jump .. => .jump
  | .jumpif .. => .jumpif
  | .apply .. => .apply
  | .enfold .. => .enfold
  | .unfold .. => .unfold
  | .drsins .. => .drsins
  | .drsqe .. => .drsqe
  | .drsqb .. => .drsqb

/-- R62: a word of a legal opcode is a word of that opcode and four fields. -/
theorem exists_wordOf {w : Word36} {op : Op} (hop : opOfNumber (opField w) = some op) :
    ∃ r f a b, w = wordOf op r f a b :=
  ⟨_, _, _, _, (wordOf_fields op w (number_of_opOfNumber _ op hop).symm).symm⟩

/-- A number whose opcode has a given format has an opcode. -/
theorem exists_op_of_format {n : BitVec 5} {fmt : Format} (h : (opOfNumber n).map Op.format = some fmt) :
    ∃ op, opOfNumber n = some op ∧ op.format = fmt :=
  Option.map_eq_some_iff.1 h

/-! ### The fields of a word as runs of its bits (R62, R63) -/

theorem formA_eq_getLsbD (w : Word36) : formA w = w.getLsbD 26 := by simp [formA, fField]
theorem formB_eq_getLsbD (w : Word36) : formB w = w.getLsbD 25 := by simp [formB, fField]
theorem fField_zero_eq_getLsbD (w : Word36) : (fField w)[0] = w.getLsbD 24 := by simp [fField]

section
variable (op : Op) (r : BitVec 4) (f : BitVec 3) (a b : BitVec 12)

theorem getLsbD_26_wordOf : (wordOf op r f a b).getLsbD 26 = f[2] := by rw [← formA_eq_getLsbD, formA_wordOf]
theorem getLsbD_25_wordOf : (wordOf op r f a b).getLsbD 25 = f[1] := by rw [← formB_eq_getLsbD, formB_wordOf]
theorem getLsbD_24_wordOf : (wordOf op r f a b).getLsbD 24 = f[0] := by
  simp only [← fField_zero_eq_getLsbD, fField_wordOf]

end

/-- A run of bits is zero exactly when its low part and its high part are. -/
theorem extractLsb'_add_eq_zero_iff {n : Nat} (x : BitVec n) (start lo hi : Nat) :
    x.extractLsb' start (hi + lo) = 0 ↔ x.extractLsb' (start + lo) hi = 0 ∧ x.extractLsb' start lo = 0 := by
  rw [← BitVec.extractLsb'_append_extractLsb'_eq_extractLsb' (x := x) (start₁ := start) rfl, append_eq_zero_iff]

/-- The 31 bits below the opcode are the four other fields. -/
theorem extract_31_eq_zero_iff (w : Word36) :
    w.extractLsb' 0 31 = 0 ↔ rField w = 0 ∧ fField w = 0 ∧ aField w = 0 ∧ bField w = 0 := by
  rw [extractLsb'_add_eq_zero_iff w 0 12 19, extractLsb'_add_eq_zero_iff w 12 12 7,
    extractLsb'_add_eq_zero_iff w 24 3 4, and_assoc, and_assoc]
  rfl

/-- The seven bits above the literal are the header's two fields. -/
theorem extract_7_eq_zero_iff (w : Word36) : w.extractLsb' 24 7 = 0 ↔ rField w = 0 ∧ fField w = 0 :=
  extractLsb'_add_eq_zero_iff w 24 3 4

/-- The five bits above the literal are what a condition code leaves of the header's two fields. -/
theorem extract_5_eq_zero_iff (w : Word36) :
    w.extractLsb' 24 5 = 0 ↔ (∃ c : BitVec 2, rField w = c ++ 0#2) ∧ fField w = 0 := by
  have hlow : w.extractLsb' 27 2 = (rField w).extractLsb' 0 2 := by
    ext i hi
    simp [rField, show i < 4 by omega, Nat.add_comm]
  have hcode : ∀ r : BitVec 4, r.extractLsb' 0 2 = 0 ↔ ∃ c : BitVec 2, r = c ++ 0#2 := by decide
  rw [← hcode, ← hlow]
  exact extractLsb'_add_eq_zero_iff w 24 3 2

/-! ### What the checks leave of a word, format by format (R63 to R65, R75 steps 2 to 4) -/

section
variable {op : Op} {r : BitVec 4} {f : BitVec 3} {a b : BitVec 12}

/-- R65: only format A1 has opcodes that refuse a form. -/
theorem formAllowed_of_format (hfmt : op.format ≠ .a1) (form : Bool) : op.formAllowed form = true := by
  cases op with
  | loadk | mov => exact absurd rfl hfmt
  | _ => rfl

/-- R75 steps 2 to 4, in a format whose opcodes take the forms it has. -/
theorem wordShaped_iff_of_format {fmt : Format} (hfmt : op.format = fmt) (hne : fmt ≠ .a1) :
    wordShaped op (wordOf op r f a b) = true ↔
      wordOf op r f a b &&& fmt.reserved f[2] = 0#36
        ∧ (fmt.regInA f[2] = true → highBitsZero a = true) ∧ (fmt.regInB f[1] = true → highBitsZero b = true) := by
  subst hfmt
  rw [wordShaped_wordOf, formAllowed_of_format hne, eq_self, true_and]

theorem wordShaped_a2_iff (hfmt : op.format = .a2) :
    wordShaped op (wordOf op r f a b) = true ↔
      f = formBits f[2] f[1] ∧ (f[2] = false → highBitsZero a = true) ∧ (f[1] = false → highBitsZero b = true) := by
  rw [wordShaped_iff_of_format hfmt (by decide), reserved_a2]
  simp [Format.regInA, Format.regInB]

theorem wordShaped_a1_iff (hfmt : op.format = .a1) :
    wordShaped op (wordOf op r f a b) = true ↔
      (f = formBits f[2] false ∧ b = 0) ∧ op.formAllowed f[2] = true ∧ (f[2] = false → highBitsZero a = true) := by
  rw [wordShaped_wordOf, hfmt, reserved_a1]
  simp [Format.regInA, Format.regInB]

theorem wordShaped_m_iff (hfmt : op.format = .m) :
    wordShaped op (wordOf op r f a b) = true ↔
      f = formBits f[2] false ∧ (f[2] = false → b = 0 ∧ highBitsZero a = true) := by
  rw [wordShaped_iff_of_format hfmt (by decide)]
  cases hm : f[2] with
  | true => rw [reserved_m_abs, hm]; simp [Format.regInA, Format.regInB]
  | false => rw [reserved_m_ind, hm]; simp [Format.regInA, Format.regInB, and_assoc]

theorem wordShaped_j_iff (hfmt : op.format = .j) : wordShaped op (wordOf op r f a b) = true ↔ r = 0 ∧ f = 0 := by
  rw [wordShaped_iff_of_format hfmt (by decide), reserved_j]
  simp [Format.regInA, Format.regInB]

theorem wordShaped_jc_iff (hfmt : op.format = .jc) :
    wordShaped op (wordOf op r f a b) = true ↔ (∃ c : BitVec 2, r = c ++ 0#2) ∧ f = 0 := by
  rw [wordShaped_iff_of_format hfmt (by decide), reserved_jc]
  simp [Format.regInA, Format.regInB]

theorem wordShaped_n_iff (hfmt : op.format = .n) :
    wordShaped op (wordOf op r f a b) = true ↔ r = 0 ∧ f = 0 ∧ a = 0 ∧ b = 0 := by
  rw [wordShaped_iff_of_format hfmt (by decide), reserved_n]
  simp [Format.regInA, Format.regInB]

theorem wordShaped_k_iff (hfmt : op.format = .k) : wordShaped op (wordOf op r f a b) = true ↔ f = 0 ∧ b = 0 := by
  rw [wordShaped_iff_of_format hfmt (by decide), reserved_k]
  simp [Format.regInA, Format.regInB]

theorem wordShaped_c3_iff (hfmt : op.format = .c3) :
    wordShaped op (wordOf op r f a b) = true ↔ f = 0 ∧ highBitsZero a = true ∧ highBitsZero b = true := by
  rw [wordShaped_iff_of_format hfmt (by decide), reserved_c3]
  simp [Format.regInA, Format.regInB]

theorem wordShaped_q_iff (hfmt : op.format = .q) :
    wordShaped op (wordOf op r f a b) = true ↔ highBitsZero a = true ∧ highBitsZero b = true := by
  rw [wordShaped_iff_of_format hfmt (by decide)]
  simp [reserved_q, Format.regInA, Format.regInB]

end

/-! ### The word of an instruction (R72, R73) -/

/-- R64: the field of a register operand has its high bits zero. -/
theorem Operand.highBitsZero_field {a : Operand} (ha : a.form = false) : highBitsZero a.field = true := by
  cases a with
  | reg i => exact highBitsZero_fieldOfReg i
  | imm v => cases ha

section
variable {op : Op}

theorem wordShaped_encodeA2 (hfmt : op.format = .a2) (rd : RegIdx) (a b : Operand) :
    wordShaped op (encodeA2 op rd a b) = true :=
  (wordShaped_a2_iff hfmt).2 (by simpa using ⟨a.highBitsZero_field, b.highBitsZero_field⟩)

theorem wordShaped_encodeA1 (hfmt : op.format = .a1) (rd : RegIdx) (a : Operand) (ha : op.formAllowed a.form = true) :
    wordShaped op (encodeA1 op rd a) = true :=
  (wordShaped_a1_iff hfmt).2 (by simpa using ⟨ha, a.highBitsZero_field⟩)

theorem wordShaped_encodeM (hfmt : op.format = .m) (r : RegIdx) (addr : Addr) :
    wordShaped op (encodeM op r addr) = true := by
  cases addr <;> exact (wordShaped_m_iff hfmt).2 (by simp)

theorem wordShaped_encodeRegs_c3 (hfmt : op.format = .c3) (r1 r2 r3 : RegIdx) :
    wordShaped op (encodeRegs op r1 0 r2 r3) = true :=
  (wordShaped_c3_iff hfmt).2 (by simp)

theorem wordShaped_encodeRegs_q (hfmt : op.format = .q) (r1 r2 r3 : RegIdx) (mask : Mask3) :
    wordShaped op (encodeRegs op r1 mask r2 r3) = true :=
  (wordShaped_q_iff hfmt).2 (by simp)

end

/-- R69: the word of an instruction has the number of its opcode. -/
@[simp] theorem opField_encode (i : Instr) : opField (encode i) = i.op.number := by
  cases i with
  | load _ addr | store _ addr => cases addr <;> exact opField_wordOf ..
  | _ => exact opField_wordOf ..

/-- R72: the word of an instruction passes the checks of its format. -/
theorem wordShaped_encode (i : Instr) : wordShaped i.op (encode i) = true := by
  cases i with
  | halt => decide
  | add | sub | and | or | xor | shl | shr | sar | rol => exact wordShaped_encodeA2 rfl ..
  | not | loadk | mov => exact wordShaped_encodeA1 rfl _ _ rfl
  | load | store => exact wordShaped_encodeM rfl ..
  | jump => exact (wordShaped_j_iff rfl).2 ⟨rfl, rfl⟩
  | jumpif cond => exact (wordShaped_jc_iff rfl).2 ⟨⟨cond.code, rfl⟩, rfl⟩
  | apply => exact (wordShaped_k_iff rfl).2 ⟨rfl, rfl⟩
  | enfold | unfold | drsins => exact wordShaped_encodeRegs_c3 rfl ..
  | drsqe | drsqb => exact wordShaped_encodeRegs_q rfl ..

/-- R66: the word of an address spells that address. -/
@[simp] theorem addrOf_encodeM (op : Op) (r : RegIdx) (addr : Addr) : addrOf (encodeM op r addr) = addr := by
  cases addr <;> simp [addrOf, encodeM]

@[simp] theorem rField_encodeM (op : Op) (r : RegIdx) (addr : Addr) : rField (encodeM op r addr) = r := by
  cases addr <;> exact rField_wordOf ..

/-- R67: the condition code stands above two zero bits. -/
@[simp] theorem extract_code_append : ∀ c : BitVec 2, (c ++ 0#2 : BitVec 4).extractLsb' 2 2 = c := by decide

/-- R72: read field by field, the word of an instruction spells that instruction. -/
theorem assemble_encode (i : Instr) : assemble i.op (encode i) = i := by
  cases i with
  | halt => rfl
  | add | sub | and | or | xor | shl | shr | sar | rol => simp [Instr.op, encode, encodeA2, assemble]
  | not => simp [Instr.op, encode, encodeA1, assemble]
  | loadk | mov => simp [Instr.op, encode, encodeA1, assemble, Operand.field]
  | load | store => simp [Instr.op, encode, assemble]
  | jump | jumpif => simp [Instr.op, encode, encodeJ, assemble]
  | apply => simp [Instr.op, encode, assemble]
  | enfold | unfold | drsins | drsqe | drsqb => simp [Instr.op, encode, encodeRegs, assemble]

/-! ### The decoder's outcomes (R71, R74, R75) -/

/-- R74: a word whose opcode has no instruction. -/
theorem decode_of_no_op {w : Word36} (hop : opOfNumber (opField w) = none) :
    decode w = .error (.illegalOpcode (opField w)) := by
  rw [decode, hop]

section
variable {w : Word36} {op : Op}

/-- R75 steps 2 to 4: a word that its format refuses. -/
theorem decode_of_not_wordShaped (hop : opOfNumber (opField w) = some op) (hs : wordShaped op w = false) :
    decode w = .error .malformedOperand := by
  simp [decode, hop, hs]

/-- R75 steps 5 and 6: a word of its format whose instruction has a fault. -/
theorem decode_of_formFault (hop : opOfNumber (opField w) = some op) (hs : wordShaped op w = true) {k : DecodeFault}
    (hk : (assemble op w).formFault = some k) : decode w = .error k := by
  simp [decode, hop, hs, hk]

/-- R72: a word of its format whose instruction is well formed. -/
theorem decode_of_wf (hop : opOfNumber (opField w) = some op) (hs : wordShaped op w = true)
    (hw : (assemble op w).wf = true) : decode w = .ok (assemble op w) := by
  simp [decode, hop, hs, (formFault_eq_none_iff_wf _).2 hw]

/-- What the decoder does with a word of a legal opcode: the four outcomes, in the order of the checks of R75. -/
theorem decode_cases (hop : opOfNumber (opField w) = some op) :
    (wordShaped op w = false ∧ decode w = .error .malformedOperand)
      ∨ (wordShaped op w = true ∧ (assemble op w).emptySignature = true ∧ decode w = .error .malformedOperand)
      ∨ (wordShaped op w = true ∧ (assemble op w).emptySignature = false ∧
          ∃ r, ((assemble op w).regs.find? fun r => !RegIdx.valid r) = some r ∧ decode w = .error (.badRegister r))
      ∨ (wordShaped op w = true ∧ (assemble op w).emptySignature = false ∧
          ((assemble op w).regs.find? fun r => !RegIdx.valid r) = none ∧ (assemble op w).wf = true
          ∧ decode w = .ok (assemble op w)) := by
  cases hs : wordShaped op w with
  | false => exact .inl ⟨rfl, decode_of_not_wordShaped hop hs⟩
  | true =>
    cases he : (assemble op w).emptySignature with
    | true => exact .inr (.inl ⟨rfl, rfl, decode_of_formFault hop hs (by simp [Instr.formFault, he])⟩)
    | false =>
      cases hfind : (assemble op w).regs.find? fun r => !RegIdx.valid r with
      | some r =>
        have hk : (assemble op w).formFault = some (.badRegister r) := by simp [Instr.formFault, he, hfind]
        exact .inr (.inr (.inl ⟨rfl, rfl, r, rfl, decode_of_formFault hop hs hk⟩))
      | none =>
        have hw : (assemble op w).wf = true :=
          (formFault_eq_none_iff_wf _).1 (by simp [Instr.formFault, he, hfind])
        exact .inr (.inr (.inr ⟨rfl, rfl, rfl, hw, decode_of_wf hop hs hw⟩))

end

/-- Settles O1: the word of an instruction has its opcode and its format, and spells it. -/
theorem decodeOfEncodeIsTheInstruction : Obligations.DecodeOfEncodeIsTheInstruction := by
  intro i hw
  have hop : opOfNumber (opField (encode i)) = some i.op := by rw [opField_encode, opOfNumber_number]
  have hdecode := decode_of_wf hop (wordShaped_encode i)
  rw [assemble_encode] at hdecode
  exact hdecode hw

/-! ### Encoding undoes decoding (R73, R76) -/

section
variable {op : Op} {r : BitVec 4} {f : BitVec 3} {a b : BitVec 12}

theorem field_operandOf_of_highBitsZero {form : Bool} (h : form = false → highBitsZero a = true) :
    (operandOf form a).field = a :=
  field_operandOf form a (by
    cases form with
    | false => exact .inr (h rfl)
    | true => exact .inl rfl)

theorem encodeA2_operandOf (hfmt : op.format = .a2) (hs : wordShaped op (wordOf op r f a b) = true) :
    encodeA2 op r (operandOf f[2] a) (operandOf f[1] b) = wordOf op r f a b := by
  obtain ⟨hf, ha, hb⟩ := (wordShaped_a2_iff hfmt).1 hs
  rw [encodeA2, form_operandOf, form_operandOf, field_operandOf_of_highBitsZero ha, field_operandOf_of_highBitsZero hb,
    ← hf]

theorem encodeA1_operandOf (hfmt : op.format = .a1) (hs : wordShaped op (wordOf op r f a b) = true) :
    encodeA1 op r (operandOf f[2] a) = wordOf op r f a b := by
  obtain ⟨⟨hf, rfl⟩, -, ha⟩ := (wordShaped_a1_iff hfmt).1 hs
  rw [encodeA1, form_operandOf, field_operandOf_of_highBitsZero ha, ← hf]

theorem encodeM_addrOf (hfmt : op.format = .m) (hs : wordShaped op (wordOf op r f a b) = true) :
    encodeM op r (addrOf (wordOf op r f a b)) = wordOf op r f a b := by
  obtain ⟨hf, hind⟩ := (wordShaped_m_iff hfmt).1 hs
  rw [addrOf, formA_wordOf, aField_wordOf]
  cases hm : f[2] with
  | true =>
    obtain ⟨hhigh, hlow⟩ := literal24_wordOf op r f a b
    rw [hm] at hf
    rw [if_pos rfl, encodeM, hhigh, hlow, ← hf]
  | false =>
    obtain ⟨rfl, ha⟩ := hind hm
    rw [hm] at hf
    rw [if_neg Bool.false_ne_true, encodeM, fieldOfReg_regOfField a ha, ← hf]

theorem encodeJ_literal24 (op : Op) (r : BitVec 4) (a b : BitVec 12) :
    encodeJ op r (literal24 (wordOf op r 0 a b)) = wordOf op r 0 a b := by
  obtain ⟨hhigh, hlow⟩ := literal24_wordOf op r 0 a b
  rw [encodeJ, hhigh, hlow]

theorem encodeRegs_regOfField (ha : highBitsZero a = true) (hb : highBitsZero b = true) :
    encodeRegs op r f (regOfField a) (regOfField b) = wordOf op r f a b := by
  rw [encodeRegs, fieldOfReg_regOfField a ha, fieldOfReg_regOfField b hb]

/-- R73, R76: a word that passes the checks of its format is the word of the instruction it spells, so that none of its bits
is ignored. -/
theorem encode_assemble (hs : wordShaped op (wordOf op r f a b) = true) :
    encode (assemble op (wordOf op r f a b)) = wordOf op r f a b := by
  cases op with
  | halt =>
    obtain ⟨rfl, rfl, rfl, rfl⟩ := (wordShaped_n_iff rfl).1 hs
    rfl
  | add | sub | and | or | xor | shl | shr | sar | rol =>
    simpa [assemble, encode] using encodeA2_operandOf rfl hs
  | not => simpa [assemble, encode] using encodeA1_operandOf rfl hs
  | loadk =>
    obtain ⟨-, himm, -⟩ := (wordShaped_a1_iff rfl).1 hs
    have hform : f[2] = true := himm
    simpa [assemble, encode, hform, operandOf] using encodeA1_operandOf rfl hs
  | mov =>
    obtain ⟨-, hreg, -⟩ := (wordShaped_a1_iff rfl).1 hs
    have hform : f[2] = false := by simpa [Op.formAllowed] using hreg
    simpa [assemble, encode, hform, operandOf] using encodeA1_operandOf rfl hs
  | load | store => simpa [assemble, encode] using encodeM_addrOf rfl hs
  | jump =>
    obtain ⟨rfl, rfl⟩ := (wordShaped_j_iff rfl).1 hs
    exact encodeJ_literal24 ..
  | jumpif =>
    obtain ⟨⟨c, rfl⟩, rfl⟩ := (wordShaped_jc_iff rfl).1 hs
    simpa [assemble, encode, code_condOf] using encodeJ_literal24 ..
  | apply =>
    obtain ⟨rfl, rfl⟩ := (wordShaped_k_iff rfl).1 hs
    simp [assemble, encode]
  | enfold | unfold | drsins =>
    obtain ⟨rfl, ha, hb⟩ := (wordShaped_c3_iff rfl).1 hs
    simpa [assemble, encode] using encodeRegs_regOfField ha hb
  | drsqe | drsqb =>
    obtain ⟨ha, hb⟩ := (wordShaped_q_iff rfl).1 hs
    simpa [assemble, encode] using encodeRegs_regOfField ha hb

end

/-- R69, R74: a number with an opcode is below 0x17. -/
theorem lt_of_opOfNumber {n : BitVec 5} {op : Op} (hop : opOfNumber n = some op) : n.toNat < 0x17 := by
  by_contra hge
  rw [(opOfNumber_eq_none_iff n).2 (by omega)] at hop
  cases hop

/-- Settles O2: by the opcode, and for a legal one by the decoder's outcome. -/
theorem everyWordIsAnInstructionOrOneDecodeFault : Obligations.EveryWordIsAnInstructionOrOneDecodeFault := by
  intro w
  cases hop : opOfNumber (opField w) with
  | none => exact .inr (.inl ⟨decode_of_no_op hop, (opOfNumber_eq_none_iff _).1 hop⟩)
  | some op =>
    have hlegal := lt_of_opOfNumber hop
    rcases decode_cases hop with ⟨-, hd⟩ | ⟨-, -, hd⟩ | ⟨-, -, r, -, hd⟩ | ⟨hs, -, -, hw, hd⟩
    · exact .inr (.inr ⟨.inl hd, hlegal⟩)
    · exact .inr (.inr ⟨.inl hd, hlegal⟩)
    · exact .inr (.inr ⟨.inr ⟨r, hd⟩, hlegal⟩)
    · have hencode : encode (assemble op w) = w := by
        obtain ⟨r, f, a, b, rfl⟩ := exists_wordOf hop
        exact encode_assemble hs
      exact .inl ⟨_, hd, hw, hencode, hlegal⟩

/-! ### Which words are malformed (R63 to R65, R68) -/

/-- R68: only a DRSQB has a signature that may be empty. -/
theorem emptySignature_assemble (op : Op) (w : Word36) :
    (assemble op w).emptySignature = true ↔ op = .drsqb ∧ fField w = 0 := by
  cases op with
  | drsqb => simp [assemble, Instr.emptySignature]
  | _ => exact iff_of_false Bool.false_ne_true (fun h => nomatch h.1)

/-- R64: a field holds no register index exactly when it is 16 or more. -/
theorem not_highBitsZero_iff (field : BitVec 12) : ¬ highBitsZero field = true ↔ 16 ≤ field.toNat := by
  rw [highBitsZero_iff, Nat.not_lt]

theorem not_eq_formBits_iff : ∀ f : BitVec 3, ¬ f = formBits f[2] f[1] ↔ f[0] = true := by decide
theorem not_eq_formBits_false_iff : ∀ f : BitVec 3, ¬ f = formBits f[2] false ↔ f[1] = true ∨ f[0] = true := by decide

section
variable {w : Word36} {op : Op}

/-- R75 steps 2 to 5: a word of a legal opcode is malformed when its format refuses it, or as an empty signature. -/
theorem decode_eq_malformed_iff (hop : opOfNumber (opField w) = some op) :
    decode w = .error .malformedOperand ↔ ¬ wordShaped op w = true ∨ (op = .drsqb ∧ fField w = 0) := by
  rw [← emptySignature_assemble]
  rcases decode_cases hop with ⟨hs, hd⟩ | ⟨hs, he, hd⟩ | ⟨hs, he, r, -, hd⟩ | ⟨hs, he, -, -, hd⟩
  · simp [hs, hd]
  · simp [he, hd]
  · simp [hs, he, hd]
  · simp [hs, he, hd]

/-- R75: outside format Q a word is malformed exactly when its format refuses it. -/
theorem decode_eq_malformed_iff_of_format (hop : opOfNumber (opField w) = some op) {fmt : Format}
    (hfmt : op.format = fmt) (hq : fmt ≠ .q) :
    decode w = .error .malformedOperand ↔ ¬ wordShaped op w = true := by
  rw [decode_eq_malformed_iff hop, or_iff_left]
  rintro ⟨rfl, -⟩
  exact hq hfmt.symm

theorem malformed_a2_iff (hop : opOfNumber (opField w) = some op) (hfmt : op.format = .a2) :
    decode w = .error .malformedOperand ↔
      w.getLsbD 24 = true ∨ (w.getLsbD 26 = false ∧ 16 ≤ (aField w).toNat)
        ∨ (w.getLsbD 25 = false ∧ 16 ≤ (bField w).toNat) := by
  obtain ⟨r, f, a, b, rfl⟩ := exists_wordOf hop
  rw [decode_eq_malformed_iff_of_format hop hfmt (by decide), wordShaped_a2_iff hfmt]
  simp only [Classical.not_and_iff_not_or_not, Classical.not_imp, not_eq_formBits_iff, not_highBitsZero_iff,
    getLsbD_24_wordOf, getLsbD_25_wordOf, getLsbD_26_wordOf,
    aField_wordOf, bField_wordOf]

theorem malformed_a1_iff (hop : opOfNumber (opField w) = some op) (hfmt : op.format = .a1) :
    decode w = .error .malformedOperand ↔
      w.getLsbD 25 = true ∨ w.getLsbD 24 = true ∨ bField w ≠ 0 ∨ op.formAllowed (w.getLsbD 26) = false
        ∨ (w.getLsbD 26 = false ∧ 16 ≤ (aField w).toNat) := by
  obtain ⟨r, f, a, b, rfl⟩ := exists_wordOf hop
  rw [decode_eq_malformed_iff_of_format hop hfmt (by decide), wordShaped_a1_iff hfmt]
  simp only [Classical.not_and_iff_not_or_not, Classical.not_imp, not_eq_formBits_false_iff, not_highBitsZero_iff,
    Bool.not_eq_true (op.formAllowed _), or_assoc, ne_eq, getLsbD_24_wordOf, getLsbD_25_wordOf, getLsbD_26_wordOf,
    aField_wordOf, bField_wordOf]

theorem malformed_not_iff (hop : opOfNumber (opField w) = some .not) :
    decode w = .error .malformedOperand ↔
      w.getLsbD 25 = true ∨ w.getLsbD 24 = true ∨ bField w ≠ 0 ∨ (w.getLsbD 26 = false ∧ 16 ≤ (aField w).toNat) :=
  (malformed_a1_iff hop rfl).trans (by simp only [Op.formAllowed, Bool.true_eq_false, false_or])

/-- R65: a LOADK needs an immediate, whose field may hold anything. -/
theorem malformed_loadk_iff (hop : opOfNumber (opField w) = some .loadk) :
    decode w = .error .malformedOperand ↔
      w.getLsbD 25 = true ∨ w.getLsbD 24 = true ∨ bField w ≠ 0 ∨ w.getLsbD 26 = false :=
  (malformed_a1_iff hop rfl).trans (by simp only [Op.formAllowed, or_iff_left_of_imp And.left])

/-- R65: a MOV needs a register. -/
theorem malformed_mov_iff (hop : opOfNumber (opField w) = some .mov) :
    decode w = .error .malformedOperand ↔
      w.getLsbD 25 = true ∨ w.getLsbD 24 = true ∨ bField w ≠ 0 ∨ w.getLsbD 26 = true ∨ 16 ≤ (aField w).toNat := by
  rw [malformed_a1_iff hop rfl, Op.formAllowed]
  cases w.getLsbD 26 <;> simp only [Bool.not_true, Bool.not_false, Bool.true_eq_false, Bool.false_eq_true, true_and,
    false_and, true_or, false_or]

theorem malformed_m_iff (hop : opOfNumber (opField w) = some op) (hfmt : op.format = .m) :
    decode w = .error .malformedOperand ↔
      w.getLsbD 25 = true ∨ w.getLsbD 24 = true
        ∨ (w.getLsbD 26 = false ∧ (bField w ≠ 0 ∨ 16 ≤ (aField w).toNat)) := by
  obtain ⟨r, f, a, b, rfl⟩ := exists_wordOf hop
  rw [decode_eq_malformed_iff_of_format hop hfmt (by decide), wordShaped_m_iff hfmt]
  simp only [Classical.not_and_iff_not_or_not, Classical.not_imp, not_eq_formBits_false_iff, not_highBitsZero_iff,
    or_assoc, ne_eq, getLsbD_24_wordOf, getLsbD_25_wordOf, getLsbD_26_wordOf,
    aField_wordOf, bField_wordOf]

theorem malformed_j_iff (hop : opOfNumber (opField w) = some op) (hfmt : op.format = .j) :
    decode w = .error .malformedOperand ↔ w.extractLsb' 24 7 ≠ 0 := by
  rw [ne_eq, extract_7_eq_zero_iff, decode_eq_malformed_iff_of_format hop hfmt (by decide)]
  obtain ⟨r, f, a, b, rfl⟩ := exists_wordOf hop
  rw [wordShaped_j_iff hfmt, rField_wordOf, fField_wordOf]

theorem malformed_jc_iff (hop : opOfNumber (opField w) = some op) (hfmt : op.format = .jc) :
    decode w = .error .malformedOperand ↔ w.extractLsb' 24 5 ≠ 0 := by
  rw [ne_eq, extract_5_eq_zero_iff, decode_eq_malformed_iff_of_format hop hfmt (by decide)]
  obtain ⟨r, f, a, b, rfl⟩ := exists_wordOf hop
  rw [wordShaped_jc_iff hfmt, rField_wordOf, fField_wordOf]

theorem malformed_n_iff (hop : opOfNumber (opField w) = some op) (hfmt : op.format = .n) :
    decode w = .error .malformedOperand ↔ w.extractLsb' 0 31 ≠ 0 := by
  rw [ne_eq, extract_31_eq_zero_iff, decode_eq_malformed_iff_of_format hop hfmt (by decide)]
  obtain ⟨r, f, a, b, rfl⟩ := exists_wordOf hop
  rw [wordShaped_n_iff hfmt, rField_wordOf, fField_wordOf, aField_wordOf, bField_wordOf]

theorem malformed_k_iff (hop : opOfNumber (opField w) = some op) (hfmt : op.format = .k) :
    decode w = .error .malformedOperand ↔ fField w ≠ 0 ∨ bField w ≠ 0 := by
  rw [ne_eq, ne_eq, ← Classical.not_and_iff_not_or_not, decode_eq_malformed_iff_of_format hop hfmt (by decide)]
  obtain ⟨r, f, a, b, rfl⟩ := exists_wordOf hop
  rw [wordShaped_k_iff hfmt, fField_wordOf, bField_wordOf]

theorem malformed_c3_iff (hop : opOfNumber (opField w) = some op) (hfmt : op.format = .c3) :
    decode w = .error .malformedOperand ↔ fField w ≠ 0 ∨ 16 ≤ (aField w).toNat ∨ 16 ≤ (bField w).toNat := by
  obtain ⟨r, f, a, b, rfl⟩ := exists_wordOf hop
  rw [decode_eq_malformed_iff_of_format hop hfmt (by decide), wordShaped_c3_iff hfmt]
  simp only [Classical.not_and_iff_not_or_not, not_highBitsZero_iff, ne_eq, fField_wordOf, aField_wordOf, bField_wordOf]

theorem malformed_q_iff (hop : opOfNumber (opField w) = some op) (hfmt : op.format = .q) :
    decode w = .error .malformedOperand ↔
      16 ≤ (aField w).toNat ∨ 16 ≤ (bField w).toNat ∨ (op = .drsqb ∧ fField w = 0) := by
  obtain ⟨r, f, a, b, rfl⟩ := exists_wordOf hop
  rw [decode_eq_malformed_iff hop, wordShaped_q_iff hfmt]
  simp only [Classical.not_and_iff_not_or_not, not_highBitsZero_iff, or_assoc, fField_wordOf, aField_wordOf,
    bField_wordOf]

theorem malformed_drsqe_iff (hop : opOfNumber (opField w) = some .drsqe) :
    decode w = .error .malformedOperand ↔ 16 ≤ (aField w).toNat ∨ 16 ≤ (bField w).toNat :=
  (malformed_q_iff hop rfl).trans (by simp)

/-- R68: the mask of a DRSQB constrains a component. -/
theorem malformed_drsqb_iff (hop : opOfNumber (opField w) = some .drsqb) :
    decode w = .error .malformedOperand ↔ 16 ≤ (aField w).toNat ∨ 16 ≤ (bField w).toNat ∨ fField w = 0 :=
  (malformed_q_iff hop rfl).trans (by simp)

end

/-- R69: the numbers of the opcodes of format A2. -/
theorem format_of_a2_number : ∀ n : BitVec 5, n.toNat ∈ [1, 2, 3, 4, 5, 7, 8, 9, 10] →
    (opOfNumber n).map Op.format = some .a2 := by decide

/-- R69: the numbers of the opcodes of format M. -/
theorem format_of_m_number : ∀ n : BitVec 5, n.toNat ∈ [13, 14] → (opOfNumber n).map Op.format = some .m := by decide

/-- R69: the numbers of the opcodes of format C3. -/
theorem format_of_c3_number : ∀ n : BitVec 5, n.toNat ∈ [18, 19, 20] → (opOfNumber n).map Op.format = some .c3 := by
  decide

/-- Settles O5: format by format, the words that its checks refuse. -/
theorem malformedWordsAreThoseThatBreakTheirFormat : Obligations.MalformedWordsAreThoseThatBreakTheirFormat := by
  intro w op a b malformed
  have hb : b ≠ 0 ↔ bField w ≠ 0 := not_congr (BitVec.toNat_inj (y := 0))
  have isOp (o : Op) (h : op = o.number.toNat) : opOfNumber (opField w) = some o := by
    have hnumber : opField w = o.number := BitVec.eq_of_toNat_eq h
    rw [hnumber, opOfNumber_number]
  rw [hb]
  refine ⟨fun h => malformed_n_iff (isOp .halt h) rfl, fun h => ?a2, fun h => malformed_not_iff (isOp .not h),
    fun h => malformed_loadk_iff (isOp .loadk h), fun h => malformed_mov_iff (isOp .mov h), fun h => ?m,
    fun h => malformed_j_iff (isOp .jump h) rfl, fun h => malformed_jc_iff (isOp .jumpif h) rfl,
    fun h => malformed_k_iff (isOp .apply h) rfl, fun h => ?c3, fun h => malformed_drsqe_iff (isOp .drsqe h),
    fun h => malformed_drsqb_iff (isOp .drsqb h)⟩
  case a2 =>
    obtain ⟨o, ho, hfmt⟩ := exists_op_of_format (format_of_a2_number _ h)
    exact malformed_a2_iff ho hfmt
  case m =>
    obtain ⟨o, ho, hfmt⟩ := exists_op_of_format (format_of_m_number _ h)
    exact malformed_m_iff ho hfmt
  case c3 =>
    obtain ⟨o, ho, hfmt⟩ := exists_op_of_format (format_of_c3_number _ h)
    exact malformed_c3_iff ho hfmt

/-! ### Which words are bad registers (R75 step 6) -/

/-- R63: whether the header field `r` holds a register index. -/
def Format.regInHeader : Format → Bool
  | .a2 | .a1 | .m | .k | .c3 | .q => true
  | .j | .jc | .n => false

/-- R64: a field holds a register index in the words that spell an operand without its form bit. -/
theorem regs_operandOf (form : Bool) (field : BitVec 12) :
    (operandOf form field).regs = if form = false then [regOfField field] else [] := by
  cases form <;> rfl

theorem regs_addrOf (w : Word36) : (addrOf w).regs = if formA w = false then [regOfField (aField w)] else [] := by
  cases hform : formA w <;> simp [addrOf, hform, Addr.regs]

/-- R75 step 6: the registers that a word spells are those of its header, field A and field B, where they hold one. -/
theorem regs_assemble {op : Op} {w : Word36} (hform : op.formAllowed (formA w) = true) :
    (assemble op w).regs =
      if op.format.regInHeader then
        rField w :: ((if op.format.regInA (formA w) then [regOfField (aField w)] else [])
          ++ (if op.format.regInB (formB w) then [regOfField (bField w)] else []))
      else [] := by
  cases op with
  | halt | jump | jumpif | apply | enfold | unfold | drsins | drsqe | drsqb => rfl
  | add | sub | and | or | xor | shl | shr | sar | rol =>
    simp [assemble, Instr.regs, regs_operandOf, Op.format, Format.regInHeader, Format.regInA, Format.regInB]
  | not => simp [assemble, Instr.regs, regs_operandOf, Op.format, Format.regInHeader, Format.regInA, Format.regInB]
  | loadk | mov =>
    simp_all [assemble, Instr.regs, Op.formAllowed, Op.format, Format.regInHeader, Format.regInA, Format.regInB]
  | load | store =>
    simp [assemble, Instr.regs, regs_addrOf, Op.format, Format.regInHeader, Format.regInA, Format.regInB]

/-- A search among a field, where it is searched, and what comes after it. -/
theorem find?_field_append {α : Type} (bad : α → Bool) (used : Bool) (a r : α) (l : List α) :
    ((if used then [a] else []) ++ l).find? bad = some r ↔
      (used = true ∧ bad r = true ∧ r = a) ∨ ((used = true → bad a = false) ∧ l.find? bad = some r) := by
  cases used with
  | false => simp
  | true =>
    have hsame : (bad a = true ∧ a = r) ↔ (bad r = true ∧ r = a) :=
      ⟨fun ⟨hbad, hr⟩ => ⟨hr ▸ hbad, hr.symm⟩, fun ⟨hbad, hr⟩ => ⟨hr ▸ hbad, hr.symm⟩⟩
    simp [List.find?_cons_eq_some, hsame]

/-- The first bad one among the header, field A and field B, where the fields are searched. -/
theorem find?_fields {α : Type} (bad : α → Bool) (usedA usedB : Bool) (h a b r : α) :
    (h :: ((if usedA then [a] else []) ++ (if usedB then [b] else []))).find? bad = some r ↔
      bad r = true ∧ (r = h ∨ (bad h = false ∧ usedA = true ∧ r = a)
        ∨ (bad h = false ∧ (usedA = true → bad a = false) ∧ usedB = true ∧ r = b)) := by
  have hfirst := find?_field_append bad true h r ((if usedA then [a] else []) ++ (if usedB then [b] else []))
  have hsecond := find?_field_append bad usedA a r (if usedB then [b] else [])
  have hthird := find?_field_append bad usedB b r []
  rw [List.append_nil] at hthird
  rw [hsecond, hthird] at hfirst
  refine hfirst.trans ?_
  cases bad r <;> simp [and_or_left]

/-- R75 step 6: the bad register of a word that no earlier check refuses. -/
theorem decode_eq_badRegister_iff {w : Word36} {op : Op} (hop : opOfNumber (opField w) = some op) (r : RegIdx) :
    decode w = .error (.badRegister r) ↔
      decode w ≠ .error .malformedOperand ∧ ((assemble op w).regs.find? fun r => !RegIdx.valid r) = some r := by
  rcases decode_cases hop with ⟨-, hd⟩ | ⟨-, -, hd⟩ | ⟨-, -, r', hfind, hd⟩ | ⟨-, -, hfind, -, hd⟩
  · simp [hd]
  · simp [hd]
  · simp [hd, hfind]
  · simp [hd, hfind]

theorem formAllowed_of_not_malformed {w : Word36} {op : Op} (hop : opOfNumber (opField w) = some op)
    (hd : decode w ≠ .error .malformedOperand) : op.formAllowed (formA w) = true := by
  by_contra hform
  refine hd (decode_of_not_wordShaped hop ?_)
  simp [wordShaped, hform]

/-! The opcodes whose words hold a register in a field, by number (R63, R64, R69). -/

theorem regInHeader_iff (op : Op) :
    op.format.regInHeader = true
      ↔ op.number.toNat ∈ [1, 2, 3, 4, 5, 6, 7, 8, 9, 10, 11, 12, 13, 14, 17, 18, 19, 20, 21, 22] := by
  cases op <;> decide

/-- LOADK, whose form is always an immediate, is not among them. -/
theorem regInA_iff {op : Op} {form : Bool} (hform : op.formAllowed form = true) :
    op.format.regInA form = true
      ↔ (op.number.toNat ∈ [1, 2, 3, 4, 5, 6, 7, 8, 9, 10, 12, 13, 14] ∧ form = false)
        ∨ op.number.toNat ∈ [18, 19, 20, 21, 22] := by
  revert form
  cases op <;> decide

theorem regInB_iff (op : Op) (form : Bool) :
    op.format.regInB form = true
      ↔ (op.number.toNat ∈ [1, 2, 3, 4, 5, 7, 8, 9, 10] ∧ form = false) ∨ op.number.toNat ∈ [18, 19, 20, 21, 22] := by
  revert form
  cases op <;> decide

theorem lt_of_mem_header_numbers {n : Nat}
    (h : n ∈ [1, 2, 3, 4, 5, 6, 7, 8, 9, 10, 11, 12, 13, 14, 17, 18, 19, 20, 21, 22]) : n < 0x17 := by
  revert n
  decide

/-- The register index of field A. -/
theorem regOfField_aField (w : Word36) : regOfField (aField w) = w.extractLsb' 12 4 := by
  ext i hi
  simp [regOfField, aField, show i < 12 by omega]

/-- The register index of field B. -/
theorem regOfField_bField (w : Word36) : regOfField (bField w) = w.extractLsb' 0 4 := by
  ext i hi
  simp [regOfField, bField]

/-- Settles O6: the decoder's search for a bad register, in the fields that hold one. -/
theorem firstBadRegisterFieldIsReported : Obligations.FirstBadRegisterFieldIsReported := by
  intro w r op header a b usesHeader usesA usesB
  cases hop : opOfNumber (opField w) with
  | none =>
    rw [decode_of_no_op hop]
    have hno : ¬ usesHeader := fun h => by
      have hlt : (opField w).toNat < 0x17 := lt_of_mem_header_numbers h
      have hge := (opOfNumber_eq_none_iff _).1 hop
      omega
    simp [hno]
  | some o =>
    have hnumber : o.number = opField w := number_of_opOfNumber _ o hop
    rw [decode_eq_badRegister_iff hop]
    refine and_congr_right fun hd => ?_
    have hform := formAllowed_of_not_malformed hop hd
    have hH : o.format.regInHeader = true ↔ usesHeader := by rw [regInHeader_iff, hnumber]; rfl
    have hA : o.format.regInA (formA w) = true ↔ usesA := by
      rw [regInA_iff hform, hnumber, formA_eq_getLsbD]; rfl
    have hB : o.format.regInB (formB w) = true ↔ usesB := by
      rw [regInB_iff, hnumber, formB_eq_getLsbD]; rfl
    rw [regs_assemble hform, ← hH, ← hA, ← hB]
    cases o.format.regInHeader with
    | false => simp
    | true =>
      rw [if_pos rfl, find?_fields, regOfField_aField, regOfField_bField]
      simp only [Bool.not_eq_true', Bool.not_eq_false', RegIdx.not_valid_iff, RegIdx.valid_iff, true_and]
      rfl

/-! ### Illegal opcodes (R74) -/

/-- R74: the decoder names an illegal opcode, and reports no other word so. -/
theorem decode_eq_illegalOpcode_iff (w : Word36) (n : BitVec 5) :
    decode w = .error (.illegalOpcode n) ↔ opField w = n ∧ 0x17 ≤ n.toNat := by
  cases hop : opOfNumber (opField w) with
  | none =>
    have hge := (opOfNumber_eq_none_iff _).1 hop
    rw [decode_of_no_op hop]
    constructor
    · rintro ⟨⟩
      exact ⟨rfl, hge⟩
    · rintro ⟨rfl, -⟩
      rfl
  | some op =>
    have hlt := lt_of_opOfNumber hop
    refine iff_of_false (fun hd => ?_) (by rintro ⟨rfl, hge⟩; omega)
    rcases decode_cases hop with ⟨-, hd'⟩ | ⟨-, -, hd'⟩ | ⟨-, -, r, -, hd'⟩ | ⟨-, -, -, -, hd'⟩
    all_goals rw [hd'] at hd; cases hd

/-- R69, R63: the word of an instruction has its opcode's number, which has the opcode's format. -/
theorem encodedAs_op (i : Instr) : Machine.EncodedAs i i.op.number i.op.format :=
  ⟨opField_encode i, by rw [opOfNumber_number, Option.map_some]⟩

/-- Settles O3: each row evaluates to what the table lists. -/
theorem listedWordsAreTheListedInstructions : Obligations.ListedWordsAreTheListedInstructions := by
  unfold Obligations.ListedWordsAreTheListedInstructions
  decide

end Sys2Proof
end

section
/-! PROOF. The instructions that the encoding's rules speak of (spec/30_encoding.md R67, R74, R80): the step on a word that does
not decode, JUMPIF, and the pseudo-instructions, for which the ripple-carry adder is shown to add. -/

namespace Sys2Proof.Machine

/-- R71: a running machine below its limit takes the fault of a word that does not decode. -/
theorem step_of_decode_error {s : State} {w : Word36} {k : DecodeFault} (hr : s.status = .running)
    (hw : s.prog[s.pc.toNat]? = some w) (hl : s.steps < s.maxSteps) (hd : decode w = .error k) :
    step s = .next (s.count.raise (.decodeFault k)) := by
  have hfetch : s.fetch = some w := hw
  simp only [step, engineStep, hr, stepRunning, hfetch, Nat.not_le.2 hl, if_false, hd]

/-- Settles O4: the decoder's illegal opcodes, and the step on a word that does not decode. -/
theorem illegalOpcodesAreReportedByNumber : Obligations.IllegalOpcodesAreReportedByNumber :=
  fun w op => ⟨decode_eq_illegalOpcode_iff w op, fun _ hop hge hr hw hl =>
    step_of_decode_error hr hw hl ((decode_eq_illegalOpcode_iff w op).2 ⟨hop, hge⟩)⟩

/-! ### JUMPIF (R67, R182) -/

theorem State.transfer_of_le {s : State} {t : Index} (h : s.prog.length ≤ t.toNat) :
    s.transfer t = s.raise (.controlFault t) := if_pos h

theorem State.transfer_of_lt {s : State} {t : Index} (h : t.toNat < s.prog.length) : s.transfer t = s.jumpTo t :=
  if_neg (Nat.not_le.2 h)

theorem exec_jumpif_of_holds {cond : Cond} {s : State} (h : s.holds cond = true) (t : Index) :
    exec (.jumpif cond t) s = .next (s.transfer t) := by
  rw [exec, execJumpif, State.checked_of_wf rfl, if_pos h]

theorem exec_jumpif_of_not_holds {cond : Cond} {s : State} (h : ¬ s.holds cond = true) (t : Index) :
    exec (.jumpif cond t) s = .next s.advance := by
  rw [exec, execJumpif, State.checked_of_wf rfl, if_neg h]

/-- R67: the condition code of a JUMPIF's word. -/
theorem extract_code_encode_jumpif (cond : Cond) (t : Index) :
    (encode (.jumpif cond t)).extractLsb' 29 2 = cond.code := by
  have hheader : rField (encode (.jumpif cond t)) = cond.code ++ 0#2 := rField_wordOf ..
  have hbits : (encode (.jumpif cond t)).extractLsb' 29 2 = (rField (encode (.jumpif cond t))).extractLsb' 2 2 := by
    unfold rField
    ext i hi
    simp [show 2 + i < 4 by omega, ← Nat.add_assoc]
  rw [hbits, hheader, extract_code_append]

/-- Settles O34: by whether the condition holds, and for a jump taken by its target. -/
theorem jumpifGoesToItsTargetOnlyWhenItsConditionHolds :
    Obligations.JumpifGoesToItsTargetOnlyWhenItsConditionHolds := by
  intro cond t s taken
  have htaken : taken ↔ s.holds cond = true := by cases cond <;> simp [taken, State.holds]
  refine ⟨encodedAs_op _, ?code, ?reserved, fun h hle => ?fault, fun h hlt => ?jump, fun h => ?notTaken⟩
  case code =>
    rw [extract_code_encode_jumpif]
    cases cond <;> rfl
  case reserved =>
    intro w hw hbits
    exact (malformed_jc_iff (op := .jumpif) (by rw [hw]; rfl) rfl).2 hbits
  case fault =>
    rw [exec_jumpif_of_holds (htaken.1 h), State.transfer_of_le hle]
    rfl
  case jump =>
    rw [exec_jumpif_of_holds (htaken.1 h), State.transfer_of_lt hlt]
    rfl
  case notTaken =>
    rw [exec_jumpif_of_not_holds (mt htaken.2 h)]
    rfl

/-! ### The ripple-carry adder (R105) -/

/-- R105: one position adds exactly. -/
theorem sumBit_carryBit (x y c : Bool) :
    (sumBit x y c).toNat + 2 * (carryBit x y c).toNat = x.toNat + y.toNat + c.toNat := by
  revert x y c
  decide

/-- R105: the loop over the low `n` bits adds them exactly. -/
theorem ripple_adds (a b : IU) (cin : Bool) (n : Nat) :
    (ripple a b cin n).1 + 2 ^ n * (ripple a b cin n).2.toNat = a.toNat % 2 ^ n + b.toNat % 2 ^ n + cin.toNat := by
  induction n with
  | zero => simp [ripple, Nat.mod_one]
  | succ n ih =>
    have hcell := sumBit_carryBit (a.getLsbD n) (b.getLsbD n) (ripple a b cin n).2
    rw [Nat.mod_pow_succ, Nat.mod_pow_succ, ← Nat.toNat_testBit, ← Nat.toNat_testBit, BitVec.testBit_toNat,
      BitVec.testBit_toNat]
    simp only [ripple]
    linear_combination ih + 2 ^ n * hcell

/-- R105: the sum of the 12-bit adder. -/
theorem toNat_rippleCarryAdd (a b : IU) (cin : Bool) :
    (rippleCarryAdd a b cin).1.toNat = (a.toNat + b.toNat + cin.toNat) % 4096 := by
  have hadds := ripple_adds a b cin 12
  rw [Nat.mod_eq_of_lt a.isLt, Nat.mod_eq_of_lt b.isLt] at hadds
  rw [← hadds, rippleCarryAdd, BitVec.toNat_ofNat]
  exact (Nat.add_mul_mod_self_left ..).symm

@[simp] theorem addResult_value (a b : IU) : (addResult a b).value = a + b := by
  apply BitVec.eq_of_toNat_eq
  rw [addResult, toNat_rippleCarryAdd, BitVec.toNat_add]
  rfl

@[simp] theorem subResult_value (a b : IU) : (subResult a b).value = a - b := by
  apply BitVec.eq_of_toNat_eq
  rw [subResult, toNat_rippleCarryAdd, complement, BitVec.toNat_not, BitVec.toNat_sub]
  have hb : b.toNat < 2 ^ 12 := b.isLt
  simp only [Bool.toNat_true]
  omega

/-! ### The pseudo-instructions (R80) -/

theorem exec_add_of_wf {rd : RegIdx} {a b : Operand} (hw : (Instr.add rd a b).wf = true) (s : State) :
    exec (.add rd a b) s = .next (s.writeAlu rd (addResult (s.val a) (s.val b))) := by
  rw [exec, execAdd, State.checked_of_wf hw]

theorem exec_sub_of_wf {rd : RegIdx} {a b : Operand} (hw : (Instr.sub rd a b).wf = true) (s : State) :
    exec (.sub rd a b) s = .next (s.writeAlu rd (subResult (s.val a) (s.val b))) := by
  rw [exec, execSub, State.checked_of_wf hw]

theorem exec_or_of_wf {rd : RegIdx} {a b : Operand} (hw : (Instr.or rd a b).wf = true) (s : State) :
    exec (.or rd a b) s = .next (s.writeAlu rd (orResult (s.val a) (s.val b))) := by
  rw [exec, execOr, State.checked_of_wf hw]

theorem exec_loadk_of_wf {rd : RegIdx} {v : IU} (hw : (Instr.loadk rd v).wf = true) (s : State) :
    exec (.loadk rd v) s = .next (s.writeReg rd v) := by
  rw [exec, execLoadk, State.checked_of_wf hw]

theorem exec_mov_of_wf {rd rs : RegIdx} (hw : (Instr.mov rd rs).wf = true) (s : State) :
    exec (.mov rd rs) s = .next (s.writeReg rd (s.reg rs)) := by
  rw [exec, execMov, State.checked_of_wf hw]

theorem State.writeAlu_reg_same (s : State) {rd : RegIdx} (r : AluResult) (h : RegIdx.valid rd = true) :
    (s.writeAlu rd r).reg rd = r.value :=
  State.setReg_reg_same s r.value h

@[simp] theorem State.val_reg (s : State) (i : RegIdx) : s.val (.reg i) = s.reg i := rfl
@[simp] theorem State.val_imm (s : State) (v : IU) : s.val (.imm v) = v := rfl

/-- R80, R113: the result of a register or 0 is the register's value, with the Carry flag clear. -/
theorem orResult_zero (v : IU) : orResult v 0 = ⟨v, false⟩ :=
  congrArg (AluResult.mk · false) BitVec.or_zero

/-- A register written with its own value reads as before, and so does every other. -/
theorem State.sameRegs_writeAlu_self (s : State) {r : RegIdx} (c : Bool) (h : RegIdx.valid r = true) :
    SameRegs s (s.writeAlu r ⟨s.reg r, c⟩) := by
  intro j
  by_cases hj : j = r
  · subst hj
    exact State.writeAlu_reg_same s _ h
  · exact State.writeAlu_reg_other s _ hj

/-- R80: NOP copies register 0 onto itself. -/
theorem exec_pseudoNop (s : State) : exec pseudoNop s = .next { s with pc := s.pc + 1 } := by
  rw [pseudoNop, exec_mov_of_wf rfl]
  rfl

section
variable {r : RegIdx} (h : RegIdx.valid r = true) (s : State)
include h

theorem exec_pseudoClr : exec (pseudoClr r) s = .next (s.writeReg r 0) :=
  exec_loadk_of_wf h s

theorem exec_pseudoTst : exec (pseudoTst r) s = .next (s.writeAlu r ⟨s.reg r, false⟩) := by
  rw [pseudoTst, exec_or_of_wf (by simp [Instr.wf, Operand.valid, h]), State.val_reg, State.val_imm, orResult_zero]

theorem exec_pseudoInc : ∃ t, exec (pseudoInc r) s = .next t ∧ t.reg r = s.reg r + 1 :=
  ⟨_, exec_add_of_wf (by simp [Instr.wf, Operand.valid, h]) s, by simp [State.writeAlu_reg_same s _ h]⟩

theorem exec_pseudoDec : ∃ t, exec (pseudoDec r) s = .next t ∧ t.reg r = s.reg r - 1 :=
  ⟨_, exec_sub_of_wf (by simp [Instr.wf, Operand.valid, h]) s, by simp [State.writeAlu_reg_same s _ h]⟩

theorem exec_pseudoNeg {rs : RegIdx} (hrs : RegIdx.valid rs = true) :
    ∃ t, exec (pseudoNeg r rs) s = .next t ∧ t.reg r = 0 - s.reg rs :=
  ⟨_, exec_sub_of_wf (by simp [Instr.wf, Operand.valid, h, hrs]) s, by simp [State.writeAlu_reg_same s _ h]⟩

end

/-- Settles O8: the expansions are the definitions, and the effects those of their instructions. -/
theorem pseudoInstructionsHaveTheirListedEffects : Obligations.PseudoInstructionsHaveTheirListedEffects := by
  refine ⟨exec_pseudoNop, rfl, fun _ _ => ⟨rfl, rfl, rfl, rfl, rfl⟩, fun _ => ⟨rfl, rfl, rfl, rfl⟩,
    fun r s hr => ?_, fun rd rs s hrd hrs => ?_⟩
  · have h := RegIdx.valid_iff.2 hr
    exact ⟨⟨_, exec_pseudoClr h s, State.writeReg_reg_same s 0 h, rfl, rfl⟩,
      ⟨_, exec_pseudoTst h s, s.sameRegs_writeAlu_self false h, rfl, rfl⟩, exec_pseudoInc h s, exec_pseudoDec h s⟩
  · obtain ⟨t, hexec, hreg⟩ := exec_pseudoNeg (RegIdx.valid_iff.2 hrd) s (RegIdx.valid_iff.2 hrs)
    refine ⟨t, hexec, ?_⟩
    rw [hreg, BitVec.toNat_sub]
    rfl

end Sys2Proof.Machine
end

section
/-! PROOF. The IU primitives (spec/40_alu.md R100 to R106, R122 to R124): one lemma says what each computes, bit by bit or as a
number, and the ALU instructions below rest on the same lemmas. -/

namespace Sys2Proof.Machine

/-! ### The bitwise primitives (R101, R122) -/

section
variable (a b : IU) (i : Nat)

@[simp] theorem getLsbD_iuAnd : (iuAnd a b).getLsbD i = (a.getLsbD i && b.getLsbD i) := BitVec.getLsbD_and
@[simp] theorem getLsbD_iuOr : (iuOr a b).getLsbD i = (a.getLsbD i || b.getLsbD i) := BitVec.getLsbD_or
@[simp] theorem getLsbD_iuXor : (iuXor a b).getLsbD i = (a.getLsbD i ^^ b.getLsbD i) := BitVec.getLsbD_xor

theorem getLsbD_complement {i : Nat} (hi : i < 12) : (complement a).getLsbD i = !(a.getLsbD i) := by
  simp [complement, hi]

@[simp] theorem toNat_complement : (complement a).toNat = 4095 - a.toNat := BitVec.toNat_not

end

/-- Settles O9: each bit by the primitive's own lemma, and the laws as those of bit vectors. -/
theorem bitwisePrimitivesActBitByBit : Obligations.BitwisePrimitivesActBitByBit :=
  fun a b => ⟨fun i hi => ⟨getLsbD_iuAnd a b i, getLsbD_iuOr a b i, getLsbD_iuXor a b i, getLsbD_complement a hi⟩,
    toNat_complement a, BitVec.not_not, BitVec.xor_self, BitVec.and_zero, BitVec.or_allOnes⟩

/-! ### The rotation (R102, R124) -/

theorem rotl_eq_rotateLeft (x : IU) (k : Nat) : rotl x k = x.rotateLeft k := rfl

/-- R102: the bit that a rotation moves to position `i`. -/
theorem getLsbD_rotl (x : IU) (k : Nat) {i : Nat} (hi : i < 12) :
    (rotl x k).getLsbD i = x.getLsbD ((i + 12 - k % 12) % 12) := by
  rw [rotl_eq_rotateLeft, BitVec.getLsbD_rotateLeft]
  by_cases hwrap : i < k % 12
  · have hfrom : (i + 12 - k % 12) % 12 = 12 - k % 12 + i := by omega
    simp [hwrap, hfrom]
  · have hfrom : (i + 12 - k % 12) % 12 = i - k % 12 := by omega
    simp [hwrap, hi, hfrom]

/-- R124: rotations compose, by the bits that they move. -/
theorem rotl_rotl (x : IU) (k1 k2 : Nat) : rotl (rotl x k1) k2 = rotl x ((k1 + k2) % 12) := by
  refine BitVec.eq_of_getLsbD_eq fun i hi => ?_
  rw [getLsbD_rotl _ _ hi, getLsbD_rotl _ _ (Nat.mod_lt _ (by decide)), getLsbD_rotl _ _ hi]
  congr 1
  omega

/-- R124: a rotation by a multiple of 12 moves no bit. -/
theorem rotl_of_mod_eq_zero (x : IU) {k : Nat} (hk : k % 12 = 0) : rotl x k = x := by
  refine BitVec.eq_of_getLsbD_eq fun i hi => ?_
  rw [getLsbD_rotl x k hi]
  congr 1
  omega

/-- Settles O10. -/
theorem rotationsMoveBitsAndComposeModulo12 : Obligations.RotationsMoveBitsAndComposeModulo12 :=
  fun x k k1 k2 => ⟨fun _ hi => getLsbD_rotl x k hi, rotl_rotl x k1 k2, rotl_of_mod_eq_zero x rfl, rotl_of_mod_eq_zero x rfl⟩

/-! ### The shifts (R103) -/

theorem toNat_shl (a : IU) (k : Nat) : (shl a k).toNat = a.toNat * 2 ^ k % 4096 := by
  rw [shl, BitVec.toNat_shiftLeft, Nat.shiftLeft_eq]

theorem toNat_shr (a : IU) (k : Nat) : (shr a k).toNat = a.toNat / 2 ^ k := by
  rw [shr, BitVec.toNat_ushiftRight, Nat.shiftRight_eq_div_pow]

@[simp] theorem getLsbD_shr (a : IU) (k i : Nat) : (shr a k).getLsbD i = a.getLsbD (k + i) := BitVec.getLsbD_ushiftRight a k i

theorem sar_eq_ofInt (a : IU) (k : Nat) : sar a k = BitVec.ofInt 12 (a.toInt / 2 ^ k) := by
  rw [sar, BitVec.sshiftRight_eq, Int.shiftRight_eq_div_pow]
  rfl

/-- R103: an arithmetic shift copies bit 11, the sign, into every position that it empties. -/
theorem getLsbD_sar (a : IU) (k : Nat) {i : Nat} (hi : i < 12) : (sar a k).getLsbD i = a.getLsbD (min (k + i) 11) := by
  rw [sar, BitVec.getLsbD_sshiftRight, BitVec.msb_eq_getLsbD_last]
  by_cases hin : k + i < 12
  · have hfrom : min (k + i) 11 = k + i := by omega
    simp [hi, hin, hfrom]
  · have hfrom : min (k + i) 11 = 11 := by omega
    simp [hi, hin, hfrom]

/-- R103: an arithmetic shift by 11 or more leaves copies of the sign alone. -/
theorem sar_of_le {k : Nat} (hk : 11 ≤ k) (a : IU) : sar a k = if a.getLsbD 11 then 4095 else 0 := by
  have hbit (i : Nat) (hi : i < 12) : (sar a k).getLsbD i = a.getLsbD 11 := by
    rw [getLsbD_sar a k hi, Nat.min_eq_right (Nat.le_add_right_of_le hk)]
  refine BitVec.eq_of_getLsbD_eq fun i hi => (hbit i hi).trans ?_
  cases a.getLsbD 11 with
  | true =>
    have hones : (BitVec.allOnes 12).getLsbD i = true := BitVec.getLsbD_allOnes.trans (decide_eq_true hi)
    exact hones.symm
  | false => simp

/-- Settles O11. -/
theorem shiftsAreUnboundedArithmetic : Obligations.ShiftsAreUnboundedArithmetic :=
  fun a k => ⟨toNat_shl a k, toNat_shr a k, sar_eq_ofInt a k, fun hk => sar_of_le hk a⟩

/-! ### The adder cells and the selectors (R104, R106) -/

theorem getLsbD_fullAdder_sum (a b c : IU) (i : Nat) :
    (fullAdder a b c).1.getLsbD i = sumBit (a.getLsbD i) (b.getLsbD i) (c.getLsbD i) := by
  simp [fullAdder, sumBit]

theorem getLsbD_fullAdder_carry (a b c : IU) (i : Nat) :
    (fullAdder a b c).2.getLsbD i = carryBit (a.getLsbD i) (b.getLsbD i) (c.getLsbD i) := by
  simp [fullAdder, carryBit]

/-- R106: the demultiplexer puts back what the multiplexer selects. -/
theorem demux_mux (sel : Bool) (a b : IU) : demux sel (mux sel a b) = if sel then (a, 0) else (0, b) := by
  cases sel <;> rfl

/-- Settles O12: the full-adder counts its bits as one position of the ripple-carry adder does. -/
theorem adderCellsAndSelectorsFollowTheirTables : Obligations.AdderCellsAndSelectorsFollowTheirTables := by
  refine fun a b c sel => ⟨rfl, fun i _ => ?_, rfl, rfl, rfl, rfl, demux_mux sel a b⟩
  rw [getLsbD_fullAdder_sum, getLsbD_fullAdder_carry, Nat.add_comm]
  exact sumBit_carryBit ..

/-! ### The ripple-carry adder (R105, R123) -/

/-- R105: the sum of the low `n` bits has no bit above them. -/
theorem ripple_lt (a b : IU) (cin : Bool) (n : Nat) : (ripple a b cin n).1 < 2 ^ n := by
  induction n with
  | zero => exact Nat.one_pos
  | succ n ih =>
    have hbit : (sumBit (a.getLsbD n) (b.getLsbD n) (ripple a b cin n).2).toNat * 2 ^ n ≤ 1 * 2 ^ n :=
      Nat.mul_le_mul_right _ (Bool.toNat_le _)
    rw [ripple, Nat.pow_succ]
    omega

/-- R105: the 12-bit adder adds exactly, its carry out counting for 4096. -/
theorem rippleCarryAdd_adds (a b : IU) (cin : Bool) :
    a.toNat + b.toNat + cin.toNat = (rippleCarryAdd a b cin).1.toNat + 4096 * (rippleCarryAdd a b cin).2.toNat := by
  have hsum : (rippleCarryAdd a b cin).1.toNat = (ripple a b cin 12).1 := Nat.mod_eq_of_lt (ripple_lt a b cin 12)
  have hadds := ripple_adds a b cin 12
  rw [Nat.mod_eq_of_lt a.isLt, Nat.mod_eq_of_lt b.isLt] at hadds
  rw [hsum, ← hadds]
  rfl

/-- R105: the carry out says whether the sum is past what 12 bits hold. -/
theorem rippleCarryAdd_carry (a b : IU) (cin : Bool) :
    (rippleCarryAdd a b cin).2 = decide (4096 ≤ a.toNat + b.toNat + cin.toNat) := by
  have hadds := rippleCarryAdd_adds a b cin
  have hsum : (rippleCarryAdd a b cin).1.toNat < 4096 := BitVec.isLt _
  cases hcarry : (rippleCarryAdd a b cin).2 with
  | true =>
    rw [hcarry, Bool.toNat_true] at hadds
    exact (decide_eq_true (by omega)).symm
  | false =>
    rw [hcarry, Bool.toNat_false] at hadds
    exact (decide_eq_false (by omega)).symm

/-- Settles O13. -/
theorem rippleCarryAdderAddsExactly : Obligations.RippleCarryAdderAddsExactly :=
  ⟨rippleCarryAdd_adds, fun a b => ⟨toNat_rippleCarryAdd a b false, by simp [rippleCarryAdd_carry]⟩⟩

end Sys2Proof.Machine
end

section
/-! PROOF. The ALU instructions (spec/40_alu.md R108 to R121, R125, R126): what each computes, as numbers and bits, beside the
one lemma that says how an ALU-class instruction completes. -/

namespace Sys2Proof.Machine

/-! ### How an instruction that writes one register completes (R28, R108) -/

/-- R22, R75: an instruction that is not well formed takes the DecodeFault that the guard finds. -/
theorem decodeFaultUnlessWf (i : Instr) (s : State) : DecodeFaultUnlessWf i s := by
  intro hw
  obtain ⟨f, hf⟩ := exists_formFault_of_not_wf hw
  exact ⟨f, exec_of_formFault hf s⟩

/-- R22, R75: outside an empty signature, that fault is of an invalid register that the instruction names. -/
theorem exec_badRegister_of_not_wf {i : Instr} (hsig : i.emptySignature = false) (hw : i.wf = false) (s : State) :
    ∃ r ∈ i.regs, 4 ≤ r.toNat ∧ exec i s = .next (s.raise (.decodeFault (.badRegister r))) := by
  obtain ⟨f, hf⟩ := exists_formFault_of_not_wf hw
  rcases formFault_eq_some hf with ⟨hempty, -⟩ | ⟨-, r, hr, hinvalid, rfl⟩
  · rw [hsig] at hempty
    cases hempty
  · exact ⟨r, hr, RegIdx.not_valid_iff.1 hinvalid, exec_of_formFault hf s⟩

theorem mem_regs_of_destination {i : Instr} {rd : RegIdx} (hd : i.destination = some rd) : rd ∈ i.regs := by
  cases i with
  | halt | store | jump | jumpif | drsins => cases hd
  | _ =>
    cases hd
    exact List.mem_cons_self

/-- R21, R22: the destination of a well-formed instruction is a register of the machine. -/
theorem valid_of_destination {i : Instr} {rd : RegIdx} (hw : i.wf = true) (hd : i.destination = some rd) :
    RegIdx.valid rd = true :=
  valid_of_wf hw (mem_regs_of_destination hd)

theorem State.writeReg_completes (s : State) {rd : RegIdx} (h : RegIdx.valid rd = true) (v : IU) :
    CompletesWithReg rd v s (s.writeReg rd v) :=
  ⟨s.writeReg_reg_same v h, rfl, rfl, fun _ hr => s.writeReg_reg_other v hr, fun _ => rfl, ⟨rfl, rfl, rfl⟩,
    ⟨rfl, rfl, rfl, rfl, rfl, rfl, rfl⟩⟩

theorem State.writeAlu_completes (s : State) {rd : RegIdx} (h : RegIdx.valid rd = true) (r : AluResult) :
    CompletesWithReg rd r.value s (s.writeAlu rd r) :=
  ⟨s.writeAlu_reg_same r h, rfl, rfl, fun _ hr => s.writeAlu_reg_other r hr, fun _ => rfl, ⟨rfl, rfl, rfl⟩,
    ⟨rfl, rfl, rfl, rfl, rfl, rfl, rfl⟩⟩

section
variable {i : Instr} {rd : RegIdx} {s : State} (hw : i.wf = true) (hd : i.destination = some rd)
include hw hd

/-- R108: a well-formed instruction that writes an ALU result completes with its value and its flags. -/
theorem completes_of_exec_writeAlu {r : AluResult} {v : IU} {z c : Bool} (hexec : exec i s = .next (s.writeAlu rd r))
    (hr : r = ⟨v, c⟩) (hz : zeroFlag v = z) :
    ∃ t, exec i s = .next t ∧ CompletesWithReg rd v s t ∧ t.z = z ∧ t.c = c := by
  subst hr hz
  exact ⟨_, hexec, s.writeAlu_completes (valid_of_destination hw hd) _, rfl, rfl⟩

/-- R28: a well-formed instruction that writes one register leaves the flags. -/
theorem completes_of_exec_writeReg {v : IU} (hexec : exec i s = .next (s.writeReg rd v)) :
    ∃ t, exec i s = .next t ∧ CompletesWithReg rd v s t ∧ SameFlags s t :=
  ⟨_, hexec, s.writeReg_completes (valid_of_destination hw hd) v, rfl, rfl⟩

end

/-! ### The Zero flag (R25, R125) -/

theorem zeroFlag_eq_decide (v : IU) : zeroFlag v = decide (v = 0) := rfl

theorem zeroFlag_ofNat (n : Nat) : zeroFlag (BitVec.ofNat 12 n) = decide (n % 4096 = 0) := by
  rw [zeroFlag_eq_decide, decide_eq_decide, ← BitVec.toNat_inj, BitVec.toNat_ofNat]
  rfl

/-- R125: of the effects of a well-formed instruction only the ALU's is that of an ALU-class instruction, and it sets the Zero
flag from what it writes to the destination. -/
theorem Effect.z_of_aluClass {i : Instr} {s t : State} (he : Effect i s t) (hw : i.wf = true) (hi : i.aluClass = true) :
    ∃ rd, i.destination = some rd ∧ t.z = decide (t.reg rd = 0) := by
  cases he with
  | alu _ _ rd r hd =>
    refine ⟨rd, hd, ?_⟩
    rw [s.writeAlu_reg_same r (valid_of_destination hw hd)]
    rfl
  | guardFault _ _ _ hnot =>
    rw [hw] at hnot
    cases hnot
  | register _ _ _ _ _ ha | addressFault _ _ _ ha | jump _ _ _ ha | controlFault _ _ _ ha =>
    rw [hi] at ha
    cases ha
  | halt | store | notTaken | enfold | notFound | unfold | insert | queryExact | queryByBasin => cases hi

/-- Settles O22: the ALU's effect sets Z from the destination, and O23 has that LOADK and MOV leave the flags. -/
theorem flagsAgreeWithTheLastAluResult : Obligations.FlagsAgreeWithTheLastAluResult := by
  refine fun i s t hw hexec => ⟨(effect_of_exec hexec).z_of_aluClass hw, fun hcopy => ?_⟩
  refine onlyAluClassInstructionsChangeFlags i s t hexec (.inl ?_)
  rcases hcopy with ⟨rd, v, rfl⟩ | ⟨rd, rs, rfl⟩ <;> rfl

/-! ### ADD and SUB (R110, R111, R126) -/

theorem addResult_eq (va vb : IU) :
    addResult va vb = ⟨BitVec.ofNat 12 (va.toNat + vb.toNat), decide (4096 ≤ va.toNat + vb.toNat)⟩ := by
  have hvalue : (addResult va vb).value = BitVec.ofNat 12 (va.toNat + vb.toNat) := addResult_value va vb
  have hcarry : (addResult va vb).carry = decide (4096 ≤ va.toNat + vb.toNat) := rippleCarryAdd_carry va vb false
  rw [← hvalue, ← hcarry]

/-- R111, D12: the adder carries out of `va + (4095 - vb) + 1` exactly when `va - vb` needs no borrow. -/
theorem subResult_eq (va vb : IU) :
    subResult va vb = ⟨BitVec.ofNat 12 (va.toNat + 4096 - vb.toNat), decide (vb.toNat ≤ va.toNat)⟩ := by
  have hvb : vb.toNat < 4096 := vb.isLt
  have hvalue : (subResult va vb).value = BitVec.ofNat 12 (va.toNat + 4096 - vb.toNat) := by
    apply BitVec.eq_of_toNat_eq
    rw [subResult_value, BitVec.toNat_sub, BitVec.toNat_ofNat]
    congr 1
    omega
  have hcarry : (subResult va vb).carry = decide (vb.toNat ≤ va.toNat) := by
    rw [subResult, rippleCarryAdd_carry, toNat_complement, Bool.toNat_true, decide_eq_decide]
    omega
  rw [← hvalue, ← hcarry]

/-- Settles O14. -/
theorem addWritesTheSumAndItsFlags : Obligations.AddWritesTheSumAndItsFlags :=
  fun _ _ _ s => ⟨encodedAs_op _, decodeFaultUnlessWf _ s, fun hw =>
    completes_of_exec_writeAlu hw rfl (exec_add_of_wf hw s) (addResult_eq ..) (zeroFlag_ofNat _)⟩

/-- Settles O15. -/
theorem subWritesTheDifferenceAndNoBorrow : Obligations.SubWritesTheDifferenceAndNoBorrow := by
  refine ⟨fun rd a b s => ⟨encodedAs_op _, decodeFaultUnlessWf _ s, fun hw => ?completes⟩, fun a b => ?undo⟩
  case completes =>
    refine completes_of_exec_writeAlu hw rfl (exec_sub_of_wf hw s) (subResult_eq ..) ?_
    have hva : (s.val a).toNat < 4096 := BitVec.isLt _
    have hvb : (s.val b).toNat < 4096 := BitVec.isLt _
    rw [zeroFlag_ofNat, decide_eq_decide]
    omega
  case undo => rw [addResult_value, subResult_value, BitVec.sub_add_cancel]

/-! ### AND, OR, XOR and NOT (R112 to R115) -/

theorem exec_and_of_wf {rd : RegIdx} {a b : Operand} (hw : (Instr.and rd a b).wf = true) (s : State) :
    exec (.and rd a b) s = .next (s.writeAlu rd ⟨s.val a &&& s.val b, false⟩) :=
  State.checked_of_wf hw _ s

theorem exec_xor_of_wf {rd : RegIdx} {a b : Operand} (hw : (Instr.xor rd a b).wf = true) (s : State) :
    exec (.xor rd a b) s = .next (s.writeAlu rd ⟨s.val a ^^^ s.val b, false⟩) :=
  State.checked_of_wf hw _ s

theorem exec_not_of_wf {rd : RegIdx} {a : Operand} (hw : (Instr.not rd a).wf = true) (s : State) :
    exec (.not rd a) s = .next (s.writeAlu rd ⟨~~~(s.val a), false⟩) :=
  State.checked_of_wf hw _ s

/-- Settles O16: the four differ in the value that they write, and NOT has fields that must be 0. -/
theorem logicInstructionsWriteTheirResultAndClearCarry : Obligations.LogicInstructionsWriteTheirResultAndClearCarry := by
  refine fun rd a b s => ⟨⟨encodedAs_op _, decodeFaultUnlessWf _ s, fun hw => ?and⟩,
    ⟨encodedAs_op _, decodeFaultUnlessWf _ s, fun hw => ?or⟩,
    ⟨encodedAs_op _, decodeFaultUnlessWf _ s, fun hw => ?xor⟩,
    ⟨encodedAs_op _, ⟨decodeFaultUnlessWf _ s, fun hw => ?not⟩, fun w hop hbits => ?malformed⟩⟩
  case and => exact completes_of_exec_writeAlu hw rfl (exec_and_of_wf hw s) rfl rfl
  case or => exact completes_of_exec_writeAlu hw rfl (exec_or_of_wf hw s) rfl rfl
  case xor => exact completes_of_exec_writeAlu hw rfl (exec_xor_of_wf hw s) rfl rfl
  case not => exact completes_of_exec_writeAlu hw rfl (exec_not_of_wf hw s) rfl rfl
  case malformed => exact (malformed_not_iff (by rw [hop]; rfl)).2 (hbits.imp_right fun hb => .inr (.inl hb))

/-! ### SHL, SHR and SAR (R116 to R118) -/

/-- R116: the last bit out of bit 11 is bit 12 of the unbounded product. -/
theorem shlCarry_eq (va : IU) (k : Nat) : shlCarry va k = (decide (1 ≤ k ∧ k ≤ 12) && va.getLsbD (12 - k)) := by
  rw [shlCarry, Nat.testBit_shiftLeft, BitVec.testBit_toNat]
  cases k <;> simp

/-- R117: the last bit out of bit 0; an amount past 12 moves out a bit that is not there. -/
theorem shrCarry_eq (va : IU) (k : Nat) : shrCarry va k = (decide (1 ≤ k ∧ k ≤ 12) && va.getLsbD (k - 1)) := by
  rw [shrCarry, getLsbD_shr]
  cases k with
  | zero => rfl
  | succ k =>
    by_cases hk : k < 12
    · simp [hk]
    · simp [hk, BitVec.getLsbD_of_ge va k (by omega)]

/-- R118: the last bit out of bit 0 of the sign-extended value. -/
theorem sarCarry_eq (va : IU) (k : Nat) : sarCarry va k = (decide (1 ≤ k) && va.getLsbD (min (k - 1) 11)) := by
  rw [sarCarry, getLsbD_sar _ _ (by decide)]
  cases k <;> simp

theorem shl_eq_ofNat (va : IU) (k : Nat) : shl va k = BitVec.ofNat 12 (va.toNat * 2 ^ k) :=
  BitVec.eq_of_toNat_eq (toNat_shl va k)

theorem div_pow_lt (va : IU) (k : Nat) : va.toNat / 2 ^ k < 4096 := Nat.lt_of_le_of_lt (Nat.div_le_self ..) va.isLt

theorem shr_eq_ofNat (va : IU) (k : Nat) : shr va k = BitVec.ofNat 12 (va.toNat / 2 ^ k) := by
  apply BitVec.eq_of_toNat_eq
  rw [toNat_shr, BitVec.toNat_ofNat, Nat.mod_eq_of_lt (div_pow_lt va k)]

theorem exec_shl_of_wf {rd : RegIdx} {a b : Operand} (hw : (Instr.shl rd a b).wf = true) (s : State) :
    exec (.shl rd a b) s = .next (s.writeAlu rd (shlResult (s.val a) (s.val b))) :=
  State.checked_of_wf hw _ s

theorem exec_shr_of_wf {rd : RegIdx} {a b : Operand} (hw : (Instr.shr rd a b).wf = true) (s : State) :
    exec (.shr rd a b) s = .next (s.writeAlu rd (shrResult (s.val a) (s.val b))) :=
  State.checked_of_wf hw _ s

theorem exec_sar_of_wf {rd : RegIdx} {a b : Operand} (hw : (Instr.sar rd a b).wf = true) (s : State) :
    exec (.sar rd a b) s = .next (s.writeAlu rd (sarResult (s.val a) (s.val b))) :=
  State.checked_of_wf hw _ s

/-- Settles O17. -/
theorem shlWritesTheShiftAndTheLastBitOut : Obligations.ShlWritesTheShiftAndTheLastBitOut :=
  fun _ _ _ s => ⟨encodedAs_op _, decodeFaultUnlessWf _ s, fun hw =>
    completes_of_exec_writeAlu hw rfl (exec_shl_of_wf hw s) (congrArg₂ AluResult.mk (shl_eq_ofNat ..) (shlCarry_eq ..))
      (zeroFlag_ofNat _)⟩

/-- Settles O18: the quotient fits in 12 bits, so it is 0 exactly when the result is. -/
theorem shrWritesTheShiftAndTheLastBitOut : Obligations.ShrWritesTheShiftAndTheLastBitOut := by
  refine fun rd a b s => ⟨encodedAs_op _, decodeFaultUnlessWf _ s, fun hw => ?_⟩
  refine completes_of_exec_writeAlu hw rfl (exec_shr_of_wf hw s)
    (congrArg₂ AluResult.mk (shr_eq_ofNat ..) (shrCarry_eq ..)) ?_
  rw [zeroFlag_ofNat, Nat.mod_eq_of_lt (div_pow_lt ..)]

/-- Settles O19: the Zero flag is that of the value which the destination then holds. -/
theorem sarWritesTheShiftAndTheLastBitOut : Obligations.SarWritesTheShiftAndTheLastBitOut := by
  refine fun rd a b s => ⟨encodedAs_op _, decodeFaultUnlessWf _ s, fun hw => ?_⟩
  obtain ⟨t, hexec, hdone, hz, hc⟩ := completes_of_exec_writeAlu hw rfl (exec_sar_of_wf hw s)
    (congrArg₂ AluResult.mk (sar_eq_ofInt ..) (sarCarry_eq ..)) (zeroFlag_eq_decide _)
  have hreg : t.reg rd = _ := hdone.1
  exact ⟨t, hexec, hdone, by rw [hz, hreg], hc⟩

/-! ### ROL (R119) -/

theorem exec_rol_of_wf {rd : RegIdx} {a b : Operand} (hw : (Instr.rol rd a b).wf = true) (s : State) :
    exec (.rol rd a b) s = .next (s.writeAlu rd (rolResult (s.val a) (s.val b))) :=
  State.checked_of_wf hw _ s

/-- Settles O20: the value is the rotation. -/
theorem rolWritesTheRotationAndClearsCarry : Obligations.RolWritesTheRotationAndClearsCarry := by
  refine fun rd a b s => ⟨encodedAs_op _, decodeFaultUnlessWf _ s, fun hw => ?_⟩
  obtain ⟨t, hexec, hdone⟩ := completes_of_exec_writeAlu hw rfl (exec_rol_of_wf hw s) rfl (zeroFlag_eq_decide _)
  exact ⟨t, rotl (s.val a) (s.val b).toNat, hexec, fun i hi => getLsbD_rotl _ _ hi, hdone⟩

/-! ### LOADK and MOV (R120, R121) -/

/-- Settles O21: each writes its register and no flag, and each form bit that R65 refuses is malformed. -/
theorem loadkAndMovCopyAndLeaveFlags : Obligations.LoadkAndMovCopyAndLeaveFlags := by
  refine fun rd rs v s => ⟨⟨encodedAs_op _, decodeFaultUnlessWf _ s, fun w hop hform => ?loadkForm, fun hw => ?loadk⟩,
    ⟨encodedAs_op _, fun w hop hform => ?movForm, fun hw => ?movFault, fun hw => ?mov⟩⟩
  case loadkForm => exact (malformed_loadk_iff (by rw [hop]; rfl)).2 (.inr (.inr (.inr hform)))
  case loadk => exact completes_of_exec_writeReg hw rfl (exec_loadk_of_wf hw s)
  case movForm => exact (malformed_mov_iff (by rw [hop]; rfl)).2 (.inr (.inr (.inr (.inl hform))))
  case movFault =>
    obtain ⟨r, hr, hge, hexec⟩ := exec_badRegister_of_not_wf rfl hw s
    exact ⟨r, by simpa [Instr.regs] using hr, hge, hexec⟩
  case mov => exact completes_of_exec_writeReg hw rfl (exec_mov_of_wf hw s)

end Sys2Proof.Machine
end

section
/-! PROOF. LOAD and STORE (spec/41_load_store.md R152, R153): the access past `MEM_CAP` beside the one below it, for each. -/

namespace Sys2Proof.Machine

/-! ### The address fault (R43) -/

/-- R43: an access to one cell at or past `MEM_CAP` faults with the address of that cell. -/
theorem State.withArea_one_of_le {s : State} {a : Nat} (ha : s.memCap ≤ a) (k : State → State) :
    s.withArea a 1 k = s.raise (.addressFault a) := by
  rcases State.withArea_cases a 1 k s with ⟨-, -, hfault⟩ | ⟨hfits, -⟩
  · exact hfault
  · omega

/-- R152: a LOAD at or past `MEM_CAP`. -/
theorem exec_load_of_le {rd : RegIdx} {addr : Addr} {s : State} (hw : (Instr.load rd addr).wf = true)
    (ha : s.memCap ≤ s.address addr) :
    exec (.load rd addr) s = .next (s.raise (.addressFault (s.address addr))) := by
  rw [exec, execLoad, State.checked_of_wf hw, State.withArea_one_of_le ha]

/-- R153: a STORE at or past `MEM_CAP` writes no cell. -/
theorem exec_store_of_le {rs : RegIdx} {addr : Addr} {s : State} (hw : (Instr.store rs addr).wf = true)
    (ha : s.memCap ≤ s.address addr) :
    exec (.store rs addr) s = .next (s.raise (.addressFault (s.address addr))) := by
  rw [exec, execStore, State.checked_of_wf hw, State.withArea_one_of_le ha]

/-! ### LOAD (R152) -/

/-- Settles O30: below `MEM_CAP` LOAD completes as every instruction does that writes one register. -/
theorem loadMovesACellOrFaults : Obligations.LoadMovesACellOrFaults :=
  fun _ _ s => ⟨encodedAs_op _, decodeFaultUnlessWf _ s, fun hw =>
    ⟨exec_load_of_le hw, fun ha => completes_of_exec_writeReg hw rfl (exec_load_of_lt hw ha)⟩⟩

/-! ### STORE (R153) -/

/-- R44: on canonical memory a write of one cell leaves what every other cell reads. -/
theorem State.setCell_sameMemOutside {s : State} (h : s.mem.wf = true) (a : Nat) (v : IU) :
    SameMemOutside a 1 s (s.setCell a v) := by
  intro b hb
  rw [State.setCell_cell h, if_neg (by omega)]

/-- Settles O31: below `MEM_CAP` the next state is that of the one write, so registers, flags, port and run are untouched and the
memory's law says what its cells read. -/
theorem storeMovesARegisterOrFaults : Obligations.StoreMovesARegisterOrFaults := by
  refine fun rs addr s => ⟨encodedAs_op _, decodeFaultUnlessWf _ s, fun hw hmem => ⟨exec_store_of_le hw, fun ha => ?_⟩⟩
  have hcell : (s.setCell (s.address addr) (s.reg rs)).cell (s.address addr) = s.reg rs := by
    rw [State.setCell_cell hmem, if_pos rfl]
  exact ⟨_, exec_store_of_lt hw ha, hcell, State.setCell_sameMemOutside hmem _ _, fun _ => rfl, ⟨rfl, rfl⟩, rfl, rfl,
    ⟨rfl, rfl, rfl⟩, ⟨rfl, rfl, rfl, rfl, rfl, rfl, rfl⟩⟩

end Sys2Proof.Machine
end

section
/-! PROOF. Control (spec/42_control.md): what a step answers in each of its branches, the placing of a word where the machine
fetches next, JUMP and HALT, and the counters. -/

namespace Sys2Proof.Machine

/-! ### The branches of a step (R171, R172, R174) -/

section
variable {s : State} (hr : s.status = .running)
include hr

/-- R172: past the end of the program a running machine halts. -/
theorem step_of_past (hp : s.prog.length ≤ s.pc.toNat) : step s = .next s.halt := by
  simp only [step, engineStep, hr, stepRunning, (State.fetch_eq_none_iff s).2 hp]

/-- R174: at its step limit a running machine that has a word to run does not run it. -/
theorem step_of_limit {w : Word36} (hw : s.prog[s.pc.toNat]? = some w) (hl : s.maxSteps ≤ s.steps) :
    step s = .next (s.raise .resourceExhausted) := by
  have hfetch : s.fetch = some w := hw
  simp only [step, engineStep, hr, stepRunning, hfetch, hl, if_true]

/-- R171: below its limit a running machine executes the instruction of its word, counted first. -/
theorem step_of_decode_ok {w : Word36} {i : Instr} (hw : s.prog[s.pc.toNat]? = some w) (hl : s.steps < s.maxSteps)
    (hd : decode w = .ok i) : step s = exec i s.count := by
  have hfetch : s.fetch = some w := hw
  simp only [step, engineStep, hr, stepRunning, hfetch, Nat.not_le.2 hl, if_false, hd]

end

/-- Settles O43: the last branch of a step. -/
theorem stepRunsTheDecodedInstruction : Obligations.StepRunsTheDecodedInstruction :=
  fun _ _ _ hr hw hl hd => step_of_decode_ok hr hw hl hd

/-- Settles O44: the branch of a step at a word that does not decode. -/
theorem stepFaultsOnAWordThatDoesNotDecode : Obligations.StepFaultsOnAWordThatDoesNotDecode :=
  fun _ _ _ hr hw hl hd => step_of_decode_error hr hw hl hd

/-- Settles O45: the first branch of a step, which does not look at the limit. -/
theorem thePastOfTheProgramHaltsImplicitly : Obligations.ThePastOfTheProgramHaltsImplicitly :=
  fun _ => step_of_past

/-! ### The word placed where the machine fetches next (log 4) -/

theorem getElem?_placeWord (ws : List Word36) (n : Nat) (w : Word36) : (placeWord ws n w)[n]? = some w := by
  induction n generalizing ws with
  | zero => cases ws <;> rfl
  | succ n ih =>
    cases ws with
    | nil => exact ih []
    | cons v ws => exact ih ws

/-- R171: a state in which a word is placed runs the instruction that the word decodes to. -/
theorem step_placed (s : State) {w : Word36} {i : Instr} (hd : decode w = .ok i) :
    step (s.placed w) = exec i (s.placed w).count :=
  step_of_decode_ok rfl (getElem?_placeWord s.prog s.pc.toNat w) (Nat.le_max_right s.maxSteps (s.steps + 1)) hd

/-- Settles O52: no bit of a 36-bit word is cut off when it is placed. -/
theorem aPlacedWordIsTheNextInstructionRun : Obligations.APlacedWordIsTheNextInstructionRun := by
  intro s w i hw hd
  have hplaced : s.withFetchWord 40 w = s.placed (BitVec.ofNat 36 w) := by
    rw [State.withFetchWord, Nat.mod_eq_of_lt (by omega)]
  rw [hplaced]
  exact ⟨step_placed s hd, rfl, rfl, rfl⟩

/-! ### JUMP (R181) -/

theorem exec_jump (t : Index) (s : State) : exec (.jump t) s = .next (s.transfer t) := by
  rw [exec, execJump, State.checked_of_wf rfl]

/-- Settles O33: the transfer, by whether its target is in the program. -/
theorem jumpGoesToAValidTargetOrFaults : Obligations.JumpGoesToAValidTargetOrFaults := by
  refine fun t s => ⟨encodedAs_op _, fun w hw hbits => ?reserved, fun hle => ?fault, fun hlt => ?jump⟩
  case reserved => exact (malformed_j_iff (op := .jump) (by rw [hw]; rfl) rfl).2 hbits
  case fault =>
    rw [exec_jump, State.transfer_of_le hle]
    rfl
  case jump =>
    rw [exec_jump, State.transfer_of_lt hlt]
    rfl

/-! ### HALT (R183) -/

theorem encode_halt : encode .halt = 0 := rfl

/-- R183: the word of zeros is a HALT. -/
theorem decode_zero : decode 0 = .ok .halt := decodeOfEncodeIsTheInstruction .halt rfl

/-- R62: a word is zero when its opcode and all bits below the opcode are. -/
theorem eq_zero_of_opField_eq_zero {w : Word36} (hop : opField w = 0) (hlow : w.extractLsb' 0 31 = 0) : w = 0 := by
  have hall : w.extractLsb' 0 (5 + 31) = 0 := (extractLsb'_add_eq_zero_iff w 0 31 5).2 ⟨hop, hlow⟩
  rwa [BitVec.extractLsb'_eq_self] at hall

theorem exec_halt (s : State) : exec .halt s = .next s.halt := by
  rw [exec, execHalt, State.checked_of_wf rfl]

/-- Settles O35: every bit below HALT's opcode is reserved, and the word of zeros steps as any instruction does. -/
theorem haltEndsTheRunWhereItStands : Obligations.HaltEndsTheRunWhereItStands := by
  refine ⟨encode_halt, encodedAs_op .halt, fun w hw hne => ?reserved, exec_halt, fun s hr hword =>
    ⟨step_of_limit hr hword, fun hl => ?counted⟩⟩
  case reserved =>
    exact (malformed_n_iff (op := .halt) (by rw [hw]; rfl) rfl).2 (mt (eq_zero_of_opField_eq_zero hw) hne)
  case counted =>
    rw [step_of_decode_ok hr hword hl decode_zero, exec_halt]
    rfl

/-! ### The counters (R31, R33, R174) -/

/-- The tick and the step count are as before. -/
def SameCounters (s t : State) : Prop := t.tick = s.tick ∧ t.steps = s.steps

@[simp] theorem State.deliver_tick (s : State) (rd : RegIdx) (b : Nat) (vs : List IU) (n : Nat) :
    (s.deliver rd b vs n).tick = s.tick :=
  deliver_keeps State.tick rd (fun _ _ => rfl) (fun _ _ _ _ => rfl) s b vs n
@[simp] theorem State.deliver_steps (s : State) (rd : RegIdx) (b : Nat) (vs : List IU) (n : Nat) :
    (s.deliver rd b vs n).steps = s.steps :=
  deliver_keeps State.steps rd (fun _ _ => rfl) (fun _ _ _ _ => rfl) s b vs n

/-- R174: the count of an instruction is the engine's, and no effect touches it. -/
theorem Effect.sameCounters {i : Instr} {s t : State} (he : Effect i s t) : SameCounters s t := by
  cases he with
  | unfold | queryExact | queryByBasin => simp [SameCounters]
  | guardFault | alu | register | halt | addressFault | store | jump | controlFault | notTaken | enfold | notFound
  | insert => exact ⟨rfl, rfl⟩

/-- R172, R174: a step that fetches nothing, or stands at the limit, ends the run uncounted; every other is counted. -/
theorem RunningStep.counters_cases {s t : State} (h : RunningStep s t) :
    ((s.prog.length ≤ s.pc.toNat ∨ s.maxSteps ≤ s.steps) ∧ t.status.ended = true ∧ SameCounters s t)
      ∨ (s.pc.toNat < s.prog.length ∧ s.steps < s.maxSteps ∧ SameCounters s.count t) := by
  cases h with
  | past hp => exact .inl ⟨.inl hp, rfl, rfl, rfl⟩
  | limit _ hl => exact .inl ⟨.inr hl, rfl, rfl, rfl⟩
  | undecodable _ _ hp hl => exact .inr ⟨hp, hl, rfl, rfl⟩
  | instruction _ _ _ hp hl _ _ he => exact .inr ⟨hp, hl, he.sameCounters⟩

/-- Settles O48: the two ways of counting are those of the two clauses, which exclude each other. -/
theorem tickAndStepsCountExecutedInstructions : Obligations.TickAndStepsCountExecutedInstructions := by
  intro s t hr hstep
  rcases (runningStep_of_step hr hstep).counters_cases with ⟨hstop, -, hsame⟩ | ⟨hp, hl, hcount⟩
  · exact ⟨fun _ => by omega, fun _ => hsame⟩
  · exact ⟨fun _ => hcount, fun _ => by omega⟩

end Sys2Proof.Machine
end

section
/-! PROOF. Runs (spec/42_control.md R170, R177; spec/70_reset_and_hazards.md R262): how a run starts, what holds in every state
of it, and that it ends within its limit. -/

namespace Sys2Proof.Machine

/-! ### The start of a run (R170, R262) -/

/-- R170, R262: the state in which an accepted run starts. -/
def State.started (prog : List Word36) (n : Int) (s0 : State) : State :=
  { s0 with prog := prog, maxSteps := n.toNat, status := .running, steps := 0, history := [] }

section
variable {prog : List Word36} {s0 : State} {n : Int}

/-- R8: a program too long is refused, whatever else is supplied. -/
theorem startRun_of_lenLimit_lt (hlong : Config.lenLimit < prog.length) :
    startRun prog s0 n = .refused (.programTooLong prog.length) := if_pos hlong

theorem startRun_of_neg (hlen : prog.length ≤ Config.lenLimit) (hn : n < 0) :
    startRun prog s0 n = .refused .negativeStepLimit := by
  rw [startRun, if_neg (Nat.not_lt.2 hlen), if_pos hn]

/-- R262: a program and a limit that are accepted leave the start state to be checked. -/
theorem startRun_of_accepted (hlen : prog.length ≤ Config.lenLimit) (hn : 0 ≤ n) :
    startRun prog s0 n = if s0.memoryInRange then .next (s0.started prog n) else .refused .startStateOutOfRange := by
  rw [startRun, if_neg (Nat.not_lt.2 hlen), if_neg (Int.not_lt.2 hn)]
  rfl

/-- R170: a run starts exactly from what is in range, and in the one state that it starts in. -/
theorem startRun_next_iff {s : State} :
    startRun prog s0 n = .next s
      ↔ prog.length ≤ Config.lenLimit ∧ 0 ≤ n ∧ s0.memoryInRange = true ∧ s = s0.started prog n := by
  by_cases hlen : prog.length ≤ Config.lenLimit
  · by_cases hn : 0 ≤ n
    · rw [startRun_of_accepted hlen hn]
      cases s0.memoryInRange <;> simp [hlen, hn, eq_comm]
    · simp [startRun_of_neg hlen (Int.not_le.1 hn), hn]
  · simp [startRun_of_lenLimit_lt (Nat.not_le.1 hlen), hlen]

end

/-- Settles O57: the refusals in their order, and the one state in which a run starts. -/
theorem aRunStartsRunningOrIsRefused : Obligations.ARunStartsRunningOrIsRefused := by
  refine fun prog s0 n => ⟨startRun_of_lenLimit_lt, startRun_of_neg, fun hlen hn hout => ?outOfRange,
    fun hlen hn hin => ⟨s0.started prog n, ?starts, rfl, rfl, rfl, rfl, rfl, rfl, ⟨rfl, rfl⟩, rfl, rfl, rfl, rfl⟩⟩
  case outOfRange => rw [startRun_of_accepted hlen hn, hout, if_neg Bool.false_ne_true]
  case starts => exact startRun_next_iff.2 ⟨hlen, hn, hin, rfl⟩

/-! ### Every step answers a next state (R236) -/

theorem exists_exec_next (i : Instr) (s : State) : ∃ t, exec i s = .next t := by
  obtain ⟨effect, he⟩ := exec_eq_checked i s
  exact ⟨_, he⟩

/-- R171, R236: faults included, a step has a next state: it never stops outside the architecture. -/
theorem exists_step_next (s : State) : ∃ t, step s = .next t := by
  by_cases hr : s.status = .running
  · cases hfetch : s.fetch with
    | none => exact ⟨_, step_of_past hr ((State.fetch_eq_none_iff s).1 hfetch)⟩
    | some w =>
      by_cases hl : s.maxSteps ≤ s.steps
      · exact ⟨_, step_of_limit hr hfetch hl⟩
      · cases hd : decode w with
        | error k => exact ⟨_, step_of_decode_error hr hfetch (Nat.not_le.1 hl) hd⟩
        | ok i =>
          rw [step_of_decode_ok hr hfetch (Nat.not_le.1 hl) hd]
          exact exists_exec_next i s.count
  · exact ⟨s, step_of_not_running hr⟩

/-! ### A run step by step (R170) -/

theorem Status.ended_eq_false_iff {st : Status} : st.ended = false ↔ st = .running := by
  cases st <;> simp [Status.ended]

theorem runSteps_of_ended {s : State} (h : s.status.ended = true) (n : Nat) : runSteps n s = .next s := by
  cases n with
  | zero => rfl
  | succ n => rw [runSteps, if_pos h]

theorem runSteps_succ {s t : State} (hr : s.status = .running) (hstep : step s = .next t) (n : Nat) :
    runSteps (n + 1) s = runSteps n t := by
  simp [runSteps, hr, Status.ended, hstep]

/-- R170: what every step keeps, a run keeps. -/
theorem runSteps_keeps {P : State → Prop} (hkeeps : ∀ s t, P s → step s = .next t → P t) {n : Nat} {s t : State}
    (hs : P s) (hrun : runSteps n s = .next t) : P t := by
  induction n generalizing s with
  | zero =>
    cases hrun
    exact hs
  | succ n ih =>
    cases hended : s.status.ended with
    | true =>
      rw [runSteps_of_ended hended] at hrun
      cases hrun
      exact hs
    | false =>
      obtain ⟨u, hstep⟩ := exists_step_next s
      rw [runSteps_succ (Status.ended_eq_false_iff.1 hended) hstep] at hrun
      exact ih (hkeeps s u hs hstep) hrun

/-- R177: each step that does not end the run uses up one of the instructions that the limit leaves, and the step after the
last of these ends it. -/
theorem exists_runSteps_ended {n : Nat} {s : State} (hn : s.maxSteps ≤ s.steps + n) :
    ∃ t, runSteps (n + 1) s = .next t ∧ t.status.ended = true := by
  cases hended : s.status.ended with
  | true => exact ⟨s, runSteps_of_ended hended _, hended⟩
  | false =>
    have hr : s.status = .running := Status.ended_eq_false_iff.1 hended
    obtain ⟨u, hstep⟩ := exists_step_next s
    rw [runSteps_succ hr hstep]
    rcases (runningStep_of_step hr hstep).counters_cases with ⟨-, hend, -⟩ | ⟨-, hl, -, hsteps⟩
    · exact ⟨u, runSteps_of_ended hend n, hend⟩
    · obtain ⟨-, hmax, -⟩ := noStepChangesTheConfiguration s u hstep
      rw [State.count_steps] at hsteps
      cases n with
      | zero => omega
      | succ n => exact exists_runSteps_ended (by omega)

/-! ### What holds throughout a run (R174, R177) -/

/-- R174, R177: a state of a run with limit `n` that started at tick `tick0`: in range, with at most `n` instructions
executed, each of them counted by the tick. -/
structure InRun (n tick0 : Nat) (s : State) : Prop where
  wf : s.wf = true
  maxSteps : s.maxSteps = n
  steps : s.steps ≤ n
  tick : s.tick = tick0 + s.steps

theorem State.started_inRun {prog : List Word36} {s0 : State} (n : Int) (hlen : prog.length ≤ Config.lenLimit)
    (hin : s0.memoryInRange = true) : InRun n.toNat s0.tick (s0.started prog n) where
  wf := Bool.and_eq_true_iff.2 ⟨hin, decide_eq_true hlen⟩
  maxSteps := rfl
  steps := Nat.zero_le _
  tick := rfl

/-- R174: every step of a run stays in it; the program and the ranges are kept, and only an instruction below the limit counts. -/
theorem InRun.step {n tick0 : Nat} {s t : State} (h : InRun n tick0 s) (hstep : step s = .next t) : InRun n tick0 t := by
  by_cases hr : s.status = .running
  · obtain ⟨hwf, hmax, hsteps, htick⟩ := h
    have hwf' := everyStepKeepsTheStateInRange s t hwf hstep
    obtain ⟨-, hmax', -⟩ := noStepChangesTheConfiguration s t hstep
    rcases (runningStep_of_step hr hstep).counters_cases with ⟨-, -, htick', hsteps'⟩ | ⟨-, hl, htick', hsteps'⟩
    · exact ⟨hwf', by omega, by omega, by omega⟩
    · rw [State.count_tick] at htick'
      rw [State.count_steps] at hsteps'
      exact ⟨hwf', by omega, by omega, by omega⟩
  · rw [step_of_not_running hr] at hstep
    cases hstep
    exact h

/-- Settles O58: the run ends because every step that does not end it is counted, and its last state is a state of the run. -/
theorem everyRunEndsWithinItsStepLimit : Obligations.EveryRunEndsWithinItsStepLimit := by
  intro prog s0 s n hstart
  obtain ⟨hlen, -, hin, rfl⟩ := startRun_next_iff.1 hstart
  obtain ⟨t, hrun, hended⟩ := exists_runSteps_ended (s := s0.started prog n) (Nat.le_add_left n.toNat 0)
  have htoEnd : runToEnd prog s0 n = .next t := by rw [runToEnd, hstart]; exact hrun
  have hrange : InRun n.toNat s0.tick t :=
    runSteps_keeps (fun _ _ => InRun.step) (State.started_inRun n hlen hin) hrun
  exact ⟨t, htoEnd, runScenario_next_iff.2 ⟨t, htoEnd, rfl⟩, hended, hrange.steps, hrange.tick, hrange.wf⟩

end Sys2Proof.Machine
end

section
/-! PROOF. The collaborator instructions (spec/43_collaborator.md R202 to R210): what a query or an unfold is answered, how a
response is delivered after its request, and each of APPLY, ENFOLD, UNFOLD, DRSINS, DRSQE and DRSQB by its branches. -/

namespace Sys2Proof.Machine

/-! ### What a request is answered (R202, logs 6 and 7) -/

/-- Log 7: dropping every triplet that is listed again later is Mathlib's removal of duplicates. -/
theorem distinct_eq_dedup (ts : List Triplet) : distinct ts = ts.dedup := by
  induction ts with
  | nil => rfl
  | cons t ts ih =>
    rw [distinct]
    split
    · rename_i hmem
      rw [ih, List.dedup_cons_of_mem hmem]
    · rename_i hmem
      rw [ih, List.dedup_cons_of_notMem hmem]

/-- `us` is the set of the triplets that `ts` lists: none twice, exactly those of `ts`, and `ts` itself where it repeats
none. -/
def IsSetOf (ts us : List Triplet) : Prop := us.Nodup ∧ (∀ t, t ∈ us ↔ t ∈ ts) ∧ (ts.Nodup → us = ts)

theorem distinct_isSetOf (ts : List Triplet) : IsSetOf ts (distinct ts) := by
  rw [distinct_eq_dedup]
  exact ⟨ts.nodup_dedup, fun _ => List.mem_dedup, fun h => h.dedup⟩

theorem State.queryAnswer_of_cons {s : State} {ts : List Triplet} {rest : List (List Triplet)}
    (h : s.queryAnswers = ts :: rest) (draw : List Triplet) : s.queryAnswer draw = distinct ts := by
  rw [State.queryAnswer, h]

/-- Log 7: a query's answer repeats no triplet, lined up or drawn. -/
theorem State.queryAnswer_nodup (s : State) (draw : List Triplet) : (s.queryAnswer draw).Nodup := by
  unfold State.queryAnswer
  split <;> exact (distinct_isSetOf _).1

theorem State.unfoldAnswer_of_cons {s : State} {r : UnfoldResponse} {rest : List UnfoldResponse}
    (h : s.unfoldAnswers = r :: rest) (d : IU) : s.unfoldAnswer d = r := by
  rw [State.unfoldAnswer, h]

/-- Settles O42: a lined-up query response is answered as its `distinct`, which is a removal of duplicates. -/
theorem queryAnswersAreSetsOfTheTripletsListed : Obligations.QueryAnswersAreSetsOfTheTripletsListed := by
  refine ⟨distinct_isSetOf, fun s ts rest mask pat sig h => ?query, fun _ _ _ d h => State.unfoldAnswer_of_cons h d⟩
  have hset (draw : List Triplet) : IsSetOf ts (s.queryAnswer draw) := by
    rw [State.queryAnswer_of_cons h]
    exact distinct_isSetOf ts
  exact ⟨hset _, hset _⟩

/-! ### APPLY and DRSINS (R205, R208) -/

theorem exec_apply_of_wf {rd : RegIdx} {rule : RuleId} (hw : (Instr.apply rd rule).wf = true) (s : State) :
    exec (.apply rd rule) s = .next (s.writeReg rd (Config.applyFn rule (s.reg rd))) :=
  State.checked_of_wf hw _ s

theorem exec_drsins_of_wf {rs rr ro : RegIdx} (hw : (Instr.drsins rs rr ro).wf = true) (s : State) :
    exec (.drsins rs rr ro) s = .next (s.record (.insert ⟨s.reg rs, s.reg rr, s.reg ro⟩)).advance := by
  rw [exec, execDrsins, State.checked_of_wf hw]

/-- Settles O36: APPLY completes as every instruction does that writes one register. -/
theorem applyRewritesItsRegisterByTheRule : Obligations.ApplyRewritesItsRegisterByTheRule :=
  fun rd rule s => ⟨encodedAs_op _, aField_wordOf .apply rd 0 rule 0, bField_wordOf .apply rd 0 rule 0,
    decodeFaultUnlessWf _ s, fun hw => completes_of_exec_writeReg hw rfl (exec_apply_of_wf hw s)⟩

/-- Settles O39. -/
theorem drsinsSendsTheFactAndChangesNothingElse : Obligations.DrsinsSendsTheFactAndChangesNothingElse :=
  fun _ _ _ s => ⟨encodedAs_op _, decodeFaultUnlessWf _ s, fun hw => exec_drsins_of_wf hw s⟩

/-! ### The two branches of an access (R43, R45) -/

section
variable {s : State} {b n : Nat} (k : State → State)

/-- R43: an access that runs past `MEM_CAP` faults with its highest address. -/
theorem State.withArea_of_past (hn : 0 < n) (hpast : s.memCap < b + n) :
    s.withArea b n k = s.raise (.addressFault (b + n - 1)) :=
  if_pos ⟨hn, hpast⟩

/-- R45: an access to no cell, or to cells below `MEM_CAP`, goes on. -/
theorem State.withArea_of_fits (hfits : n = 0 ∨ b + n ≤ s.memCap) : s.withArea b n k = k s :=
  if_neg (by omega)

end

/-! ### ENFOLD (R206) -/

section
variable {rd ra rn : RegIdx} {s : State} (hw : (Instr.enfold rd ra rn).wf = true)
include hw

theorem exec_enfold_of_past (hn : 0 < (s.reg rn).toNat) (hpast : s.memCap < (s.reg ra).toNat + (s.reg rn).toNat) :
    exec (.enfold rd ra rn) s = .next (s.raise (.addressFault ((s.reg ra).toNat + (s.reg rn).toNat - 1))) := by
  rw [exec, execEnfold, State.checked_of_wf hw, State.withArea_of_past _ hn hpast]

theorem exec_enfold_of_fits {seq : List IU} (hseq : s.cells (s.reg ra).toNat (s.reg rn).toNat = seq)
    (hfits : (s.reg rn).toNat = 0 ∨ (s.reg ra).toNat + (s.reg rn).toNat ≤ s.memCap) :
    exec (.enfold rd ra rn) s
      = .next ((s.record (.enfold seq (Config.enfoldFn seq))).writeReg rd (Config.enfoldFn seq)) := by
  rw [exec, execEnfold, State.checked_of_wf hw, State.withArea_of_fits _ hfits, hseq]

end

/-- Settles O37: where the cells fit, ENFOLD completes from the state with its request recorded as every instruction does that
writes one register. -/
theorem enfoldDigestsTheCellsOrFaults : Obligations.EnfoldDigestsTheCellsOrFaults := by
  refine fun rd ra rn s => ⟨encodedAs_op _, decodeFaultUnlessWf _ s, fun hw => ⟨exec_enfold_of_past hw, fun hfits => ?_⟩⟩
  obtain ⟨seq, hseq⟩ : ∃ seq, s.cells (s.reg ra).toNat (s.reg rn).toNat = seq := ⟨_, rfl⟩
  have hlength : seq.length = (s.reg rn).toNat := hseq ▸ Memory.readMany_length ..
  have hcells (k : Nat) (hk : k < seq.length) : seq[k] = s.cell ((s.reg ra).toNat + k) := by
    subst hseq
    exact Memory.readMany_getElem _ _ _ _ hk
  obtain ⟨hreg, hpc, hstatus, hregs, hmem, ⟨hhistory, hunfold, hquery⟩, hrun⟩ :=
    (s.record (.enfold seq (Config.enfoldFn seq))).writeReg_completes (valid_of_destination hw rfl) (Config.enfoldFn seq)
  exact ⟨_, seq, exec_enfold_of_fits hw hseq hfits, hlength, hcells, hreg, hhistory, hregs, ⟨rfl, rfl⟩, hmem, hpc, hstatus,
    hrun, hunfold, hquery⟩

/-! ### How a response is delivered (R204 steps 4 to 6) -/

section
variable (s : State) (rd : RegIdx) (b : Nat) (vs : List IU) (n : Nat)

@[simp] theorem State.deliver_unfoldAnswers : (s.deliver rd b vs n).unfoldAnswers = s.unfoldAnswers :=
  deliver_keeps State.unfoldAnswers rd (fun _ _ => rfl) (fun _ _ _ _ => rfl) s b vs n
@[simp] theorem State.deliver_queryAnswers : (s.deliver rd b vs n).queryAnswers = s.queryAnswers :=
  deliver_keeps State.queryAnswers rd (fun _ _ => rfl) (fun _ _ _ _ => rfl) s b vs n

end

section
variable {s : State} (rd : RegIdx) {b : Nat} {vs : List IU} {n : Nat}

theorem State.deliver_of_tooLong (hlong : 4095 < n) :
    s.deliver rd b vs n = s.raise (.storeFault (.responseTooLong n)) :=
  if_pos hlong

theorem State.deliver_of_past (hcount : n ≤ 4095) (hsome : 0 < vs.length) (hpast : s.memCap < b + vs.length) :
    s.deliver rd b vs n = s.raise (.addressFault (b + vs.length - 1)) :=
  (if_neg (Nat.not_lt.2 hcount)).trans (State.withArea_of_past _ hsome hpast)

theorem State.deliver_of_fits (hcount : n ≤ 4095) (hfits : vs.length = 0 ∨ b + vs.length ≤ s.memCap) :
    s.deliver rd b vs n = (s.setCells b vs).writeReg rd (BitVec.ofNat 12 n) :=
  (if_neg (Nat.not_lt.2 hcount)).trans (State.withArea_of_fits _ hfits)

end

/-- What a request leaves: everything but the port history and the lined-up responses is as before. -/
structure SameButPort (s t : State) : Prop where
  regs : t.regs = s.regs
  flags : SameFlags s t
  mem : t.mem = s.mem
  pc : t.pc = s.pc
  status : t.status = s.status
  run : SameRun s t

theorem State.requestUnfold_sameButPort (s : State) (d : IU) : SameButPort s (s.requestUnfold d) :=
  ⟨rfl, ⟨rfl, rfl⟩, rfl, rfl, rfl, ⟨rfl, rfl, rfl, rfl, rfl, rfl, rfl⟩⟩

theorem State.requestQuery_sameButPort (s : State) (e : PortEvent) : SameButPort s (s.requestQuery e) :=
  ⟨rfl, ⟨rfl, rfl⟩, rfl, rfl, rfl, ⟨rfl, rfl, rfl, rfl, rfl, rfl, rfl⟩⟩

/-- R204 step 6: the cells `vs` have been written from `b` and the count `n` to `rd`, and the next instruction is due; the port
is not spoken of. -/
structure Receives (rd : RegIdx) (b : Nat) (vs : List IU) (n : Nat) (s t : State) : Prop where
  count : t.reg rd = BitVec.ofNat 12 n
  cells : ∀ k (h : k < vs.length), t.cell (b + k) = vs[k]
  outside : SameMemOutside b vs.length s t
  regs : SameRegsBut rd s t
  flags : SameFlags s t
  pc : t.pc = s.pc + 1
  status : t.status = s.status
  run : SameRun s t

section
variable {s u : State} (h : SameButPort s u)
include h

/-- R236: a fault taken after a request leaves the rest of the CORE as it was before the request. -/
theorem SameButPort.faultsWith_raise (r : FaultReason) : FaultsWith r s (u.raise r) :=
  ⟨rfl, h.regs, h.flags, h.mem, h.pc, h.run⟩

theorem SameButPort.memCap : u.memCap = s.memCap := by
  obtain ⟨-, -, -, -, hcap, -, -⟩ := h.run
  exact hcap

variable (rd : RegIdx) {b : Nat} {vs : List IU} {n : Nat}

theorem SameButPort.deliver_tooLong (hlong : 4095 < n) :
    FaultsWith (.storeFault (.responseTooLong n)) s (u.deliver rd b vs n) :=
  State.deliver_of_tooLong rd hlong ▸ h.faultsWith_raise _

theorem SameButPort.deliver_past (hcount : n ≤ 4095) (hsome : 0 < vs.length) (hpast : s.memCap < b + vs.length) :
    FaultsWith (.addressFault (b + vs.length - 1)) s (u.deliver rd b vs n) :=
  State.deliver_of_past rd hcount hsome (h.memCap ▸ hpast) ▸ h.faultsWith_raise _

variable {rd}

/-- R204 step 6: on canonical memory a response that fits is read back from its cells, its count from `rd`. -/
theorem SameButPort.deliver_fits (hrd : RegIdx.valid rd = true) (hmem : s.mem.wf = true) (hcount : n ≤ 4095)
    (hfits : vs.length = 0 ∨ b + vs.length ≤ s.memCap) : Receives rd b vs n s (u.deliver rd b vs n) := by
  have humem : u.mem.wf = true := h.mem ▸ hmem
  rw [State.deliver_of_fits rd hcount (h.memCap ▸ hfits)]
  exact {
    count := State.writeReg_reg_same _ _ hrd
    cells := fun k hk => State.setCells_cell_inside humem b k hk
    outside := fun a ha => (State.setCells_cell_outside humem ha).trans (congrArg (Memory.read · a) h.mem)
    regs := fun r hr => (State.writeReg_reg_other _ _ hr).trans (congrArg (RegFile.get · r) h.regs)
    flags := h.flags
    pc := congrArg (· + 1) h.pc
    status := h.status
    run := h.run }

end

/-! ### UNFOLD (R207) -/

section
variable {rd ra rs : RegIdx} {s : State} (hw : (Instr.unfold rd ra rs).wf = true)
include hw

theorem exec_unfold_of_notFound (hanswer : s.unfoldAnswer (s.reg rs) = .notFound) :
    exec (.unfold rd ra rs) s
      = .next ((s.requestUnfold (s.reg rs)).raise (.storeFault (.notFound (s.reg rs)))) := by
  rw [exec, execUnfold, State.checked_of_wf hw, hanswer]

theorem exec_unfold_of_sequence {seq : List IU} (hanswer : s.unfoldAnswer (s.reg rs) = .sequence seq) :
    exec (.unfold rd ra rs) s
      = .next ((s.requestUnfold (s.reg rs)).deliver rd (s.reg ra).toNat seq seq.length) := by
  rw [exec, execUnfold, State.checked_of_wf hw, hanswer]

end

/-- Settles O38: an unknown digest faults after the request, and a sequence is delivered after it. -/
theorem unfoldWritesTheSequenceOrFaults : Obligations.UnfoldWritesTheSequenceOrFaults := by
  refine fun rd ra rs s => ⟨encodedAs_op _, decodeFaultUnlessWf _ s, fun hw hmem => ⟨fun hanswer => ?notFound,
    fun seq hanswer => ?sequence⟩⟩
  all_goals
    have hrequest := s.requestUnfold_sameButPort (s.reg rs)
    have hrecorded := s.requestUnfold_history (s.reg rs)
    rw [hanswer] at hrecorded
  case notFound => exact ⟨_, exec_unfold_of_notFound hw hanswer, hrequest.faultsWith_raise _, hrecorded⟩
  case sequence =>
    have hexec := exec_unfold_of_sequence hw hanswer
    have hhistory := (State.deliver_history _ rd (s.reg ra).toNat seq seq.length).trans hrecorded
    refine ⟨fun hlong => ⟨_, hexec, hrequest.deliver_tooLong rd hlong, hhistory⟩,
      fun hcount hsome hpast => ⟨_, hexec, hrequest.deliver_past rd hcount hsome hpast, hhistory⟩,
      fun hcount hfits => ?_⟩
    have hdone := hrequest.deliver_fits (valid_of_destination hw rfl) hmem hcount hfits
    exact ⟨_, hexec, hdone.count, hdone.cells, hdone.outside, hdone.regs, hdone.flags, hdone.pc, hdone.status, hdone.run,
      hhistory, State.deliver_unfoldAnswers .., State.deliver_queryAnswers ..⟩

/-! ### The triplets that a query delivers (R209, R210) -/

/-- R209: the three components of the triplet `j` stand in the places `3 * j` to `3 * j + 2`. -/
theorem getElem?_cellsOf (ts : List Triplet) (j : Nat) (h : j < ts.length) :
    (cellsOf ts)[3 * j]? = some ts[j].subject ∧ (cellsOf ts)[3 * j + 1]? = some ts[j].relation
      ∧ (cellsOf ts)[3 * j + 2]? = some ts[j].object := by
  induction ts generalizing j with
  | nil => cases h
  | cons t ts ih =>
    cases j with
    | zero => exact ⟨rfl, rfl, rfl⟩
    | succ j => exact ih j (Nat.lt_of_succ_lt_succ h)

/-- R209: cells that hold a list of triplets hold the components of each. -/
theorem Receives.triplet {rd : RegIdx} {q n : Nat} {ts : List Triplet} {s t : State}
    (hdone : Receives rd q (cellsOf ts) n s t) (j : Nat) (h : j < ts.length) :
    t.cell (q + 3 * j) = ts[j].subject ∧ t.cell (q + 3 * j + 1) = ts[j].relation
      ∧ t.cell (q + 3 * j + 2) = ts[j].object := by
  have hcell {k : Nat} {v : IU} (hv : (cellsOf ts)[k]? = some v) : t.cell (q + k) = v := by
    obtain ⟨hk, rfl⟩ := List.getElem?_eq_some_iff.1 hv
    exact hdone.cells k hk
  obtain ⟨hsubject, hrelation, hobject⟩ := getElem?_cellsOf ts j h
  exact ⟨hcell hsubject, hcell hrelation, hcell hobject⟩

/-- R204: an instruction that delivers its query's answer after the request does with the triplets what R209 says. -/
theorem deliversTriplets_of_exec {i : Instr} {rd : RegIdx} {q : Nat} {ts : List Triplet} {e : PortEvent} {s : State}
    (hw : i.wf = true) (hd : i.destination = some rd) (hmem : s.mem.wf = true)
    (hexec : exec i s = .next ((s.requestQuery e).deliver rd q (cellsOf ts) ts.length)) :
    DeliversTriplets i rd q ts e s := by
  have hrequest := s.requestQuery_sameButPort e
  have hlength := cellsOf_length ts
  have hhistory : ((s.requestQuery e).deliver rd q (cellsOf ts) ts.length).history = s.history ++ [e] :=
    State.deliver_history ..
  refine ⟨fun hlong => ⟨_, hexec, hrequest.deliver_tooLong rd hlong, hhistory⟩, fun hcount hsome hpast => ?past,
    fun hcount hfits => ?fits⟩
  case past =>
    have hfault := hrequest.deliver_past rd hcount (vs := cellsOf ts) (b := q) (by omega) (by omega)
    rw [hlength] at hfault
    exact ⟨_, hexec, hfault, hhistory⟩
  case fits =>
    have hdone := hrequest.deliver_fits (valid_of_destination hw hd) hmem hcount (vs := cellsOf ts) (b := q) (by omega)
    exact ⟨_, hexec, hdone.count, hdone.triplet, hlength ▸ hdone.outside, hdone.regs, hdone.flags, hdone.pc, hdone.status,
      hdone.run, hhistory, State.deliver_unfoldAnswers .., State.deliver_queryAnswers ..⟩

/-! ### DRSQE and DRSQB (R209, R210) -/

section
variable {rd ra rb : RegIdx} {mask : Mask3} {s : State}

theorem exec_drsqe_of_past (hw : (Instr.drsqe rd ra rb mask).wf = true) (hpast : s.memCap < (s.reg ra).toNat + 3) :
    exec (.drsqe rd ra rb mask) s = .next (s.raise (.addressFault ((s.reg ra).toNat + 2))) := by
  rw [exec, execDrsqe, State.checked_of_wf hw, State.withArea_of_past _ three_pos hpast]
  rfl

theorem exec_drsqb_of_past (hw : (Instr.drsqb rd ra rb mask).wf = true) (hpast : s.memCap < (s.reg ra).toNat + 3) :
    exec (.drsqb rd ra rb mask) s = .next (s.raise (.addressFault ((s.reg ra).toNat + 2))) := by
  rw [exec, execDrsqb, State.checked_of_wf hw, State.withArea_of_past _ three_pos hpast]
  rfl

theorem exec_drsqe_of_fits (hw : (Instr.drsqe rd ra rb mask).wf = true) {pat : Pattern IU} {ts : List Triplet}
    (hpat : s.exactPattern mask (s.reg ra).toNat = pat) (hts : s.exactAnswer mask pat = ts)
    (hfits : (s.reg ra).toNat + 3 ≤ s.memCap) :
    exec (.drsqe rd ra rb mask) s
      = .next ((s.requestQuery (.queryExact mask pat ts)).deliver rd (s.reg rb).toNat (cellsOf ts) ts.length) := by
  subst hpat hts
  rw [exec, execDrsqe, State.checked_of_wf hw, State.withArea_of_fits _ (.inr hfits)]

theorem exec_drsqb_of_fits (hw : (Instr.drsqb rd ra rb mask).wf = true) {sig : Pattern BasinId} {ts : List Triplet}
    (hsig : s.basinSignature mask (s.reg ra).toNat = sig) (hts : s.basinAnswer mask sig = ts)
    (hfits : (s.reg ra).toNat + 3 ≤ s.memCap) :
    exec (.drsqb rd ra rb mask) s
      = .next ((s.requestQuery (.queryByBasin mask sig ts)).deliver rd (s.reg rb).toNat (cellsOf ts) ts.length) := by
  subst hsig hts
  rw [exec, execDrsqb, State.checked_of_wf hw, State.withArea_of_fits _ (.inr hfits)]

end

/-- Settles O40: past the check of its pattern DRSQE delivers an answer that repeats no triplet. -/
theorem drsqeDeliversTheMatchesOrFaults : Obligations.DrsqeDeliversTheMatchesOrFaults :=
  fun _ _ _ _ s => ⟨encodedAs_op _, decodeFaultUnlessWf _ s, fun hw hmem => ⟨exec_drsqe_of_past hw, fun hfits =>
    ⟨s.queryAnswer_nodup _, deliversTriplets_of_exec hw rfl hmem (exec_drsqe_of_fits hw rfl rfl hfits)⟩⟩⟩

/-- R75 step 5: an empty signature is found before any register is looked at. -/
theorem formFault_of_emptySignature {i : Instr} (h : i.emptySignature = true) : i.formFault = some .malformedOperand :=
  if_pos h

/-- Settles O41: as DRSQE with the basin signature; a mask of 0 is an empty signature. -/
theorem drsqbDeliversTheMatchesOrFaults : Obligations.DrsqbDeliversTheMatchesOrFaults :=
  fun rd ra rb mask s => ⟨encodedAs_op _, decodeFaultUnlessWf _ s,
    fun hmask => exec_of_formFault (formFault_of_emptySignature (i := .drsqb rd ra rb mask) (beq_iff_eq.2 hmask)) s,
    fun hw hmem => ⟨exec_drsqb_of_past hw, fun hfits =>
      ⟨s.queryAnswer_nodup _, deliversTriplets_of_exec hw rfl hmem (exec_drsqb_of_fits hw rfl rfl hfits)⟩⟩⟩

end Sys2Proof.Machine
end

section
/-! PROOF. Faults (spec/60_exceptions.md): a fault's reason is true and the rest of the CORE is as before, read off `Effect` and
`RunningStep`; and a step limit shows a longer run as it was then, because no instruction looks at the limit. -/

namespace Sys2Proof.Machine

/-! ### The step limit (R174, R234) -/

/-- Settles O46: a program counter below the program's length names a word, whatever the word is. -/
theorem theStepLimitStopsBeforeTheInstruction : Obligations.TheStepLimitStopsBeforeTheInstruction :=
  fun _ hr hp hl => step_of_limit hr (List.getElem?_eq_getElem hp) hl

/-! ### The reasons of a DecodeFault (R74, R75, R231) -/

/-- R75 step 6: the decoder reports only an invalid register as a bad one. -/
theorem not_valid_of_decode_eq_badRegister {w : Word36} {r : RegIdx} (hd : decode w = .error (.badRegister r)) :
    RegIdx.valid r = false := by
  cases hop : opOfNumber (opField w) with
  | none =>
    rw [decode_of_no_op hop] at hd
    cases hd
  | some op =>
    obtain ⟨-, hfind⟩ := (decode_eq_badRegister_iff hop r).1 hd
    simpa using List.find?_some hfind

/-- R231: whatever the decoder reports is true, in every state. -/
theorem truthful_of_decode_error {w : Word36} {k : DecodeFault} (hd : decode w = .error k) (s : State) :
    (FaultReason.decodeFault k).truthful s := by
  cases k with
  | illegalOpcode n => exact ((decode_eq_illegalOpcode_iff w n).1 hd).2
  | malformedOperand => trivial
  | badRegister r => exact not_valid_of_decode_eq_badRegister hd

/-! ### What an instruction makes of the status (R236) -/

/-- How an instruction leaves the status: as it was, halted, or faulted for a reason that is true, the rest of the CORE as
before; the step limit is not an instruction's to exhaust. -/
inductive StatusMoves (s t : State) : Prop where
  | kept (hstatus : t.status = s.status)
  | halted (hstatus : t.status = .halted)
  | faulted (r : FaultReason) (hfault : FaultsWith r s t) (htrue : r.truthful t) (hexecuted : r ≠ .resourceExhausted)

theorem State.raise_faultsWith (s : State) (r : FaultReason) : FaultsWith r s (s.raise r) :=
  ⟨rfl, rfl, ⟨rfl, rfl⟩, rfl, rfl, rfl, rfl, rfl, rfl, rfl, rfl, rfl⟩

/-- R204, R235: a response delivered after a request is too long, or does not fit, or is taken with the status as it was. -/
theorem SameButPort.deliver_statusMoves {s u : State} (h : SameButPort s u) (rd : RegIdx) (b : Nat) (vs : List IU) (n : Nat) :
    StatusMoves s (u.deliver rd b vs n) := by
  rcases State.deliver_cases rd b vs n u with ⟨hlong, htooLong⟩ | ⟨-, hsome, hcap, hpast⟩ | ⟨-, -, hwritten⟩
  · rw [htooLong]
    exact .faulted _ (h.faultsWith_raise _) hlong nofun
  · have hreached : u.memCap ≤ b + vs.length - 1 := by omega
    rw [hpast]
    exact .faulted _ (h.faultsWith_raise _) hreached nofun
  · rw [hwritten]
    exact .kept h.status

/-- R231 to R236: each fault of a well-formed instruction is raised where its check failed, before anything but the port is
touched. -/
theorem Effect.statusMoves {i : Instr} {s t : State} (he : Effect i s t) (hw : i.wf = true) : StatusMoves s t := by
  cases he with
  | guardFault _ _ _ hnot =>
    rw [hw] at hnot
    cases hnot
  | halt => exact .halted rfl
  | addressFault _ _ _ _ hreached => exact .faulted _ (s.raise_faultsWith _) hreached nofun
  | controlFault _ _ _ _ hpast => exact .faulted _ (s.raise_faultsWith _) hpast nofun
  | notFound _ _ _ rs hanswer =>
    have hrecorded : PortEvent.unfold (s.reg rs) .notFound ∈ (s.requestUnfold (s.reg rs)).history := by simp [hanswer]
    exact .faulted _ ((s.requestUnfold_sameButPort _).faultsWith_raise _) hrecorded nofun
  | unfold => exact (s.requestUnfold_sameButPort _).deliver_statusMoves ..
  | queryExact | queryByBasin => exact (s.requestQuery_sameButPort _).deliver_statusMoves ..
  | alu | register | store | jump | notTaken | enfold | insert => exact .kept rfl

/-! ### The faults of a step (R230 to R236) -/

/-- R230 to R236: a step faults at the limit, uncounted, or in the word it runs, counted; either way for a true reason, and
with the rest of the CORE as before. -/
theorem RunningStep.fault_cases {s t : State} {r : FaultReason} (h : RunningStep s t) (hr : s.status = .running)
    (ht : t.status = .faulted r) :
    r.truthful t
      ∧ ((r = .resourceExhausted ∧ FaultsWith r s t) ∨ (r ≠ .resourceExhausted ∧ FaultsWith r s.count t)) := by
  cases h with
  | past => cases ht
  | limit _ hl =>
    cases ht
    exact ⟨hl, .inl ⟨rfl, s.raise_faultsWith _⟩⟩
  | undecodable _ _ _ _ hd =>
    cases ht
    exact ⟨truthful_of_decode_error hd _, .inr ⟨nofun, s.count.raise_faultsWith _⟩⟩
  | instruction _ _ _ _ _ _ hw he =>
    cases he.statusMoves hw with
    | kept hstatus =>
      rw [hstatus, State.count_status, hr] at ht
      cases ht
    | halted hstatus =>
      rw [hstatus] at ht
      cases ht
    | faulted r' hfault htrue hexecuted =>
      have hstatus : t.status = .faulted r' := hfault.1
      obtain rfl : r' = r := Status.faulted.inj (hstatus.symm.trans ht)
      exact ⟨htrue, .inr ⟨hexecuted, hfault⟩⟩

/-- Settles O56: a step that faults does so for a true reason, and a machine that has ended stands still. -/
theorem everyStepKeepsFaultReasonsTruthful : Obligations.EveryStepKeepsFaultReasonsTruthful := by
  intro s t hs hstep
  by_cases hr : s.status = .running
  · exact fun r ht => ((runningStep_of_step hr hstep).fault_cases hr ht).1
  · rw [step_of_not_running hr] at hstep
    cases hstep
    exact hs

/-- R236: a fault leaves the state but for the status, the counters and the port. -/
theorem FaultsWith.eq_with {r : FaultReason} {s t : State} (h : FaultsWith r s t) :
    t = { s with
      status := .faulted r, tick := t.tick, steps := t.steps
      history := t.history, unfoldAnswers := t.unfoldAnswers, queryAnswers := t.queryAnswers } := by
  obtain ⟨hstatus, hregs, ⟨hz, hc⟩, hmem, hpc, -, -, hprog, hmax, hcap, hcontent, hdrs⟩ := h
  simp only [← hstatus, ← hregs, ← hz, ← hc, ← hmem, ← hpc, ← hprog, ← hmax, ← hcap, ← hcontent, ← hdrs]

theorem FaultsWith.sameCounters {r : FaultReason} {s t : State} (h : FaultsWith r s t) : SameCounters s t := by
  obtain ⟨-, -, -, -, -, htick, hsteps, -⟩ := h
  exact ⟨htick, hsteps⟩

/-- Settles O49: the limit's fault leaves the state as it was, and every other one leaves the counted state so. -/
theorem aFaultChangesTheStatusAlone : Obligations.AFaultChangesTheStatusAlone := by
  intro s t r hr hstep ht
  rcases ((runningStep_of_step hr hstep).fault_cases hr ht).2 with ⟨hlimit, hfault⟩ | ⟨hexecuted, hfault⟩
  · exact ⟨hfault.eq_with, fun _ => hfault.sameCounters, fun hne => absurd hlimit hne⟩
  · exact ⟨hfault.eq_with, fun heq => absurd heq hexecuted, fun _ => hfault.sameCounters⟩

/-! ### A machine under another step limit (R174, R248) -/

/-- The state with another step limit. -/
def State.withLimit (m : Nat) (s : State) : State := { s with maxSteps := m }

section
variable {m : Nat} {s : State}

theorem State.val_withLimit (a : Operand) : (s.withLimit m).val a = s.val a := by
  cases a with
  | reg | imm => rfl

theorem State.writeAlu_withLimit (rd : RegIdx) (res : AluResult) :
    (s.withLimit m).writeAlu rd res = (s.writeAlu rd res).withLimit m := rfl

theorem State.withArea_withLimit {b n : Nat} {k : State → State} (hk : k (s.withLimit m) = (k s).withLimit m) :
    (s.withLimit m).withArea b n k = (s.withArea b n k).withLimit m := by
  unfold State.withArea
  rw [apply_ite (State.withLimit m), hk]
  rfl

theorem State.transfer_withLimit (t : Index) : (s.withLimit m).transfer t = (s.transfer t).withLimit m := by
  unfold State.transfer
  rw [apply_ite (State.withLimit m)]
  rfl

theorem State.deliver_withLimit {u : State} (hu : u = s.withLimit m) (rd : RegIdx) (b : Nat) (vs : List IU) (n : Nat) :
    u.deliver rd b vs n = (s.deliver rd b vs n).withLimit m := by
  subst hu
  unfold State.deliver
  split
  · rfl
  · exact State.withArea_withLimit rfl

/-- An instruction does not look at the step limit when its effect does not. -/
theorem State.checked_withLimit {i : Instr} {effect : State → State}
    (he : effect (s.withLimit m) = (effect s).withLimit m) :
    ∃ t, s.checked i effect = .next t ∧ (s.withLimit m).checked i effect = .next (t.withLimit m) := by
  unfold State.checked
  cases i.formFault with
  | none => exact ⟨effect s, rfl, congrArg _ he⟩
  | some f => exact ⟨s.raise (.decodeFault f), rfl, rfl⟩

/-- R174: the step limit is the engine's: no instruction looks at it. -/
theorem exec_withLimit (i : Instr) :
    ∃ t, exec i s = .next t ∧ exec i (s.withLimit m) = .next (t.withLimit m) := by
  cases i with
  | load | store | enfold =>
    simp only [exec, execLoad, execStore, execEnfold]
    exact State.checked_withLimit (State.withArea_withLimit rfl)
  | drsqe | drsqb =>
    simp only [exec, execDrsqe, execDrsqb]
    exact State.checked_withLimit (State.withArea_withLimit (State.deliver_withLimit (s := s.requestQuery _) rfl ..))
  | unfold rd ra rs =>
    unfold exec execUnfold
    refine State.checked_withLimit ?_
    have hsame : (s.withLimit m).unfoldAnswer ((s.withLimit m).reg rs) = s.unfoldAnswer (s.reg rs) := rfl
    rw [hsame]
    cases s.unfoldAnswer (s.reg rs) with
    | notFound => rfl
    | sequence seq => exact State.deliver_withLimit (s := s.requestUnfold _) rfl ..
  | jump t =>
    unfold exec execJump
    exact State.checked_withLimit (State.transfer_withLimit t)
  | jumpif cond t =>
    unfold exec execJumpif
    refine State.checked_withLimit ?_
    rw [apply_ite (State.withLimit m), ← State.transfer_withLimit]
    rfl
  | add | sub | and | or | xor | not | shl | shr | sar | rol =>
    simp only [exec, execAdd, execSub, execAnd, execOr, execXor, execNot, execShl, execShr, execSar, execRol]
    exact State.checked_withLimit (by simp only [State.val_withLimit, State.writeAlu_withLimit])
  | halt | loadk | mov | apply | drsins =>
    simp only [exec, execHalt, execLoadk, execMov, execApply, execDrsins]
    exact State.checked_withLimit rfl

/-- R174: below both limits a step is the same under either. -/
theorem step_withLimit (hr : s.status = .running) (hl : s.steps < s.maxSteps) (hm : s.steps < m) :
    ∃ t, step s = .next t ∧ step (s.withLimit m) = .next (t.withLimit m) := by
  have hr' : (s.withLimit m).status = .running := hr
  cases hfetch : s.fetch with
  | none =>
    have hp : s.prog.length ≤ s.pc.toNat := (State.fetch_eq_none_iff s).1 hfetch
    exact ⟨_, step_of_past hr hp, step_of_past hr' hp⟩
  | some w =>
    have hfetch' : (s.withLimit m).fetch = some w := hfetch
    cases hd : decode w with
    | error k => exact ⟨_, step_of_decode_error hr hfetch hl hd, step_of_decode_error hr' hfetch' hm hd⟩
    | ok i =>
      rw [step_of_decode_ok hr hfetch hl hd, step_of_decode_ok hr' hfetch' hm hd]
      exact exec_withLimit i

end

theorem Status.ne_running_of_ended {st : Status} (h : st.ended = true) : st ≠ .running := by
  rintro rfl
  cases h

/-- R248: as long as neither limit is reached a run is the same under either, and one that has not ended has executed an
instruction in every step. -/
theorem runSteps_withLimit {m n : Nat} {s : State} (hl : s.steps + n ≤ s.maxSteps) (hm : s.steps + n ≤ m) :
    ∃ t, runSteps n s = .next t ∧ runSteps n (s.withLimit m) = .next (t.withLimit m)
      ∧ (t.status = .running → t.steps = s.steps + n) := by
  induction n generalizing s with
  | zero => exact ⟨s, rfl, rfl, fun _ => rfl⟩
  | succ n ih =>
    cases hended : s.status.ended with
    | true =>
      exact ⟨s, runSteps_of_ended hended _, runSteps_of_ended (s := s.withLimit m) hended _,
        fun hr => absurd hr (Status.ne_running_of_ended hended)⟩
    | false =>
      have hr : s.status = .running := Status.ended_eq_false_iff.1 hended
      obtain ⟨u, hstep, hstep'⟩ := step_withLimit hr (m := m) (by omega) (by omega)
      rw [runSteps_succ hr hstep, runSteps_succ (s := s.withLimit m) hr hstep']
      rcases (runningStep_of_step hr hstep).counters_cases with ⟨-, hend, -⟩ | ⟨-, -, -, hsteps⟩
      · exact ⟨u, runSteps_of_ended hend n, runSteps_of_ended (s := u.withLimit m) hend n,
          fun hr => absurd hr (Status.ne_running_of_ended hend)⟩
      · obtain ⟨-, hmax, -⟩ := noStepChangesTheConfiguration s u hstep
        rw [State.count_steps] at hsteps
        obtain ⟨t, hrun, hrun', hcount⟩ := ih (s := u) (by omega) (by omega)
        exact ⟨t, hrun, hrun', fun hr => by rw [hcount hr, hsteps, Nat.add_right_comm, Nat.add_assoc]⟩

/-- R170: a run of more steps goes on from where one of fewer came to. -/
theorem runSteps_add {n : Nat} {s t : State} (hrun : runSteps n s = .next t) (m : Nat) :
    runSteps (n + m) s = runSteps m t := by
  induction n generalizing s with
  | zero =>
    cases hrun
    rw [Nat.zero_add]
  | succ n ih =>
    cases hended : s.status.ended with
    | true =>
      rw [runSteps_of_ended hended] at hrun
      cases hrun
      rw [runSteps_of_ended hended, runSteps_of_ended hended]
    | false =>
      have hr : s.status = .running := Status.ended_eq_false_iff.1 hended
      obtain ⟨u, hstep⟩ := exists_step_next s
      rw [runSteps_succ hr hstep] at hrun
      rw [Nat.add_right_comm, runSteps_succ hr hstep, ih hrun]

/-- R172, R174: a running machine that has used up its limit halts past the end of its program, and takes the limit's fault
otherwise. -/
theorem step_of_limit_reached {s : State} (hr : s.status = .running) (hl : s.maxSteps ≤ s.steps) :
    step s = .next { s with status := if s.prog.length ≤ s.pc.toNat then .halted else .faulted .resourceExhausted } := by
  split
  · exact step_of_past hr ‹_›
  · exact theStepLimitStopsBeforeTheInstruction s hr (by omega) hl

/-- Settles O59: under its limit `k` the machine comes to the same state in `k` steps, and its next step ends the run. -/
theorem aStepLimitObservesTheStateAfterItsInstructions : Obligations.AStepLimitObservesTheStateAfterItsInstructions := by
  intro k s hr hzero hk
  obtain ⟨t, hrun, hrun', hcount⟩ := runSteps_withLimit (s := s) (n := k) (m := k) (by omega) (by omega)
  have hlast : runSteps (k + 1) (s.withLimit k) = runSteps 1 (t.withLimit k) := runSteps_add hrun' 1
  cases hended : t.status.ended with
  | true =>
    have hstays := runSteps_of_ended (s := t.withLimit k) hended 1
    exact ⟨t, t.withLimit k, hrun, hlast.trans hstays, fun _ => rfl,
      fun hrt => absurd hrt (Status.ne_running_of_ended hended)⟩
  | false =>
    have hrt : t.status = .running := Status.ended_eq_false_iff.1 hended
    have hsteps : t.steps = k := by rw [hcount hrt, hzero, Nat.zero_add]
    have hends := step_of_limit_reached (s := t.withLimit k) hrt hsteps.ge
    exact ⟨t, _, hrun, hlast.trans (runSteps_succ (s := t.withLimit k) hrt hends 0),
      fun hend => absurd hrt (Status.ne_running_of_ended hend), fun _ => rfl⟩

end Sys2Proof.Machine
end

section
/-! PROOF. The byte image of a program (spec/70_reset_and_hazards.md R265): five big-endian bytes a word, read back word by
word. -/

namespace Sys2Proof

/-! ### The image of one word -/

theorem wordOfBytes_bytesOfWord (w : Word36) :
    wordOfBytes ((w.extractLsb' 32 4).setWidth 8) (w.extractLsb' 24 8) (w.extractLsb' 16 8) (w.extractLsb' 8 8)
      (w.extractLsb' 0 8) = some w := by
  have htop : ((w.extractLsb' 32 4).setWidth 8).extractLsb' 4 4 = 0 := by
    ext i hi
    simp
  have hword : ((w.extractLsb' 32 4).setWidth 8).extractLsb' 0 4 ++ w.extractLsb' 24 8 ++ w.extractLsb' 16 8
      ++ w.extractLsb' 8 8 ++ w.extractLsb' 0 8 = w := by
    ext i hi
    simp only [← BitVec.getLsbD_eq_getElem, BitVec.getLsbD_append, BitVec.getLsbD_extractLsb', BitVec.getLsbD_setWidth]
    interval_cases i <;> simp
  rw [wordOfBytes, htop, hword]
  rfl

/-- R265: the five bytes are a word exactly when the top nibble of the first is zero. -/
theorem isSome_wordOfBytes_iff (b4 b3 b2 b1 b0 : BitVec 8) :
    (wordOfBytes b4 b3 b2 b1 b0).isSome = true ↔ b4.toNat < 16 := by
  have htop : b4.extractLsb' 4 4 = 0#4 ↔ b4.toNat < 16 := by
    rw [← BitVec.toNat_inj, BitVec.extractLsb'_toNat, Nat.shiftRight_eq_div_pow, BitVec.toNat_ofNat]
    have := b4.isLt
    omega
  simp [wordOfBytes, htop]

/-- R265: most significant byte first. -/
theorem foldl_bytesOfWord (w : Word36) : (bytesOfWord w).foldl (fun n byte => n * 256 + byte.toNat) 0 = w.toNat := by
  have hw := w.isLt
  simp only [bytesOfWord, List.foldl_cons, List.foldl_nil, BitVec.toNat_setWidth, BitVec.extractLsb'_toNat,
    Nat.shiftRight_eq_div_pow]
  omega

/-! ### The image of a program -/

theorem imageOfProgram_cons (w : Word36) (prog : List Word36) :
    imageOfProgram (w :: prog) = bytesOfWord w ++ imageOfProgram prog := rfl

theorem imageOfProgram_singleton (w : Word36) : imageOfProgram [w] = bytesOfWord w := rfl

theorem programOfImage_imageOfProgram (prog : List Word36) : programOfImage (imageOfProgram prog) = some prog := by
  induction prog with
  | nil => rfl
  | cons w prog ih =>
    rw [imageOfProgram_cons, bytesOfWord]
    simp only [List.cons_append, List.nil_append, programOfImage, wordOfBytes_bytesOfWord, ih]

/-- R265: the image of a program by its shape: whole groups of five bytes, each with a zero top nibble. -/
def IsImage (image : List (BitVec 8)) : Prop :=
  image.length % 5 = 0 ∧ ∀ k (h : 5 * k < image.length), image[5 * k].toNat < 16

theorem isImage_nil : IsImage [] := ⟨rfl, fun _ h => absurd h (Nat.not_lt_zero _)⟩

theorem isImage_bytes_cons_iff (b4 b3 b2 b1 b0 : BitVec 8) (rest : List (BitVec 8)) :
    IsImage (b4 :: b3 :: b2 :: b1 :: b0 :: rest) ↔ b4.toNat < 16 ∧ IsImage rest := by
  constructor
  · rintro ⟨hlen, htop⟩
    simp only [List.length_cons] at hlen htop
    exact ⟨htop 0 (by omega), by omega, fun k hk => htop (k + 1) (by omega)⟩
  · rintro ⟨hfirst, hlen, htop⟩
    refine ⟨by simp only [List.length_cons]; omega, fun k hk => ?_⟩
    simp only [List.length_cons] at hk
    cases k with
    | zero => exact hfirst
    | succ k => exact htop k (by omega)

theorem isSome_programOfImage_bytes_cons_iff (b4 b3 b2 b1 b0 : BitVec 8) (rest : List (BitVec 8)) :
    (programOfImage (b4 :: b3 :: b2 :: b1 :: b0 :: rest)).isSome = true
      ↔ b4.toNat < 16 ∧ (programOfImage rest).isSome = true := by
  rw [programOfImage, ← isSome_wordOfBytes_iff b4 b3 b2 b1 b0]
  cases wordOfBytes b4 b3 b2 b1 b0 <;> cases programOfImage rest <;> simp

/-- R265: reading peels off one word of five bytes at a time; fewer than five are left over only where there is no program. -/
theorem isSome_programOfImage_iff : ∀ image : List (BitVec 8), (programOfImage image).isSome = true ↔ IsImage image
  | [] => iff_of_true rfl isImage_nil
  | b4 :: b3 :: b2 :: b1 :: b0 :: rest => by
    rw [isSome_programOfImage_bytes_cons_iff, isImage_bytes_cons_iff, isSome_programOfImage_iff rest]
  | [_] | [_, _] | [_, _, _] | [_, _, _, _] => iff_of_false Bool.false_ne_true fun ⟨hlen, _⟩ => absurd hlen (by simp)

end Sys2Proof

namespace Sys2Proof.Machine

/-- R265: what is no image of a program is refused as such, before anything else is looked at (log 15). -/
theorem startRunFromImage_of_badImage {image : List (BitVec 8)} (hbad : programOfImage image = none) (s : State) (n : Int) :
    startRunFromImage image s n = .refused .badImage := by
  rw [startRunFromImage, hbad]

/-- Settles O7: words are read back five bytes at a time, and only whole words with a zero top nibble are read. -/
theorem programImageIsFiveBigEndianBytesAWord : Obligations.ProgramImageIsFiveBigEndianBytesAWord := by
  refine ⟨programOfImage_imageOfProgram, fun w prog => ?firstWord, fun w => ?oneWord, isSome_programOfImage_iff,
    fun _ s n hbad => startRunFromImage_of_badImage hbad s n⟩
  case firstWord => rw [imageOfProgram_singleton, imageOfProgram_cons]
  case oneWord =>
    rw [imageOfProgram_singleton]
    exact ⟨rfl, foldl_bytesOfWord w⟩

end Sys2Proof.Machine
end

section
/-! PROOF. The state at reset (spec/70_reset_and_hazards.md R260): every component zero, and a good state to start from. -/

namespace Sys2Proof.Machine

/-- R20: the file of four zeroes reads 0 everywhere, at an index that is not valid too (log 12). -/
theorem RegFile.get_zeroes (i : RegIdx) : (⟨0, 0, 0, 0⟩ : RegFile).get i = 0 := by
  unfold RegFile.get
  split <;> rfl

/-- Settles O53: the registers are four zeroes, and memory lists no cell. -/
theorem resetZeroesTheMachine : Obligations.ResetZeroesTheMachine :=
  ⟨RegFile.get_zeroes, fun _ => rfl, rfl, rfl, rfl, rfl, rfl, rfl⟩

theorem State.faultTruthful_of_running {s : State} (hr : s.status = .running) : s.faultTruthful :=
  fun _ hfault => Status.noConfusion (hr.symm.trans hfault)

/-- R7, R8, R260: at reset `MEM_CAP` is below its limit, memory lists no cell and the program store no word. -/
theorem State.reset_wf : State.reset.wf = true :=
  State.wf_iff.2 ⟨by decide, Memory.reset_wf, fun _ hcell => absurd hcell List.not_mem_nil, Nat.zero_le _⟩

/-- Settles O54: the reset state lists no cell and no word, and it is running. -/
theorem resetIsAGoodState : Obligations.ResetIsAGoodState :=
  ⟨State.reset_wf, State.faultTruthful_of_running rfl⟩

end Sys2Proof.Machine
end
